-- ==== Sys2Proof/Word.lean ====
section
/-! DEFINITION. The two word types of the machine (00_scope.md R6, R9): a byte is 8 bits, an address, an index
register, the stack pointer and the program counter are 16 bits. -/

namespace Sys2Proof

/-- A `u8` of the spec (R9). -/
abbrev Byte := BitVec 8

/-- A `u16` of the spec (R9). -/
abbrev Word := BitVec 16

end Sys2Proof
end

