-- ==== Sys2Proof/Machine/Bits.lean ====
section
/-! DEFINITION. The bit-field, extension and byte-order helpers of 00_scope.md R10. -/

namespace Sys2Proof.Machine

/-- `hi(v)`: bits 15:8 of a word (R10). -/
def hi (v : Word) : Byte := v.extractLsb' 8 8

/-- `lo(v)`: bits 7:0 of a word (R10). -/
def lo (v : Word) : Byte := v.extractLsb' 0 8

/-- `a : b`, the first byte more significant (R10, 20_memory.md R64 R65). -/
def cat16 (h l : Byte) : Word := h ++ l

/-- `zext_16(v)` (R10). -/
def zext16 (v : Byte) : Word := v.zeroExtend 16

/-- `sext_16(v)` (R10). -/
def sext16 (v : Byte) : Word := v.signExtend 16

/-- One bit as a byte, 0 or 1 (R9). -/
def bitByte (b : Bool) : Byte := if b then 1 else 0

end Sys2Proof.Machine
end

