-- ==== Sys2Proof/Machine/Sources.lean ====
section
/-! DEFINITION. The interrupt sources, the resets and their vectors (60_exceptions.md R440-R442), and the names
of the on-chip register block (10_state.md R41). -/

namespace Sys2Proof.Machine

/-- The 15 maskable sources of R440, R441. `rtii` is the periodic real-time interrupt (90_conflicts.md C12). -/
inductive Maskable where
  | sci | spi | paie | paov | tof | toc5 | toc4 | toc3 | toc2 | toc1 | tic3 | tic2 | tic1 | rtii | irq
deriving DecidableEq, Repr

/-- What enters a handler through the shared entry sequence (R455): XIRQ, a maskable source, SWI, or the
illegal opcode trap. -/
inductive TrapSource where
  | maskable (m : Maskable)
  | xirq
  | swi
  | ill
deriving DecidableEq, Repr

/-- The three resets (R440, R463). -/
inductive ResetCause where
  | reset | cmf | cop
deriving DecidableEq, Repr

/-- The request lines the environment holds itself: the sources for which the spec describes no flag register
(R452). The eight timer sources are `TFLG1` and `TMSK1` (R474). -/
inductive Line where
  | sci | spi | paie | paov | tof | rtii | irq | xirq
deriving DecidableEq, Repr

/-- The vector of a maskable source (R441). -/
def maskableVector : Maskable → Word
  | .sci => 0xFFD6 | .spi => 0xFFD8 | .paie => 0xFFDA | .paov => 0xFFDC | .tof => 0xFFDE
  | .toc5 => 0xFFE0 | .toc4 => 0xFFE2 | .toc3 => 0xFFE4 | .toc2 => 0xFFE6 | .toc1 => 0xFFE8
  | .tic3 => 0xFFEA | .tic2 => 0xFFEC | .tic1 => 0xFFEE | .rtii => 0xFFF0 | .irq => 0xFFF2

/-- The vector of a trap source (R441). -/
def trapVector : TrapSource → Word
  | .maskable m => maskableVector m
  | .xirq => 0xFFF4
  | .swi => 0xFFF6
  | .ill => 0xFFF8

/-- The vector of a reset (R441, R500). -/
def resetVector : ResetCause → Word
  | .cop => 0xFFFA | .cmf => 0xFFFC | .reset => 0xFFFE

/-- The fixed priority order of the maskable sources, highest first (R442). -/
def maskableOrder : List Maskable :=
  [.irq, .rtii, .tic1, .tic2, .tic3, .toc1, .toc2, .toc3, .toc4, .toc5, .tof, .paov, .paie, .spi, .sci]

/-- The order with the source HPRIO promotes put first (R442, parameter PROMOTED_SOURCE of R7). -/
def priorityOrder : Option Maskable → List Maskable
  | none => maskableOrder
  | some m => m :: maskableOrder

/-- The order in which the resets outrank one another (R442). -/
def resetOrder : List ResetCause := [.reset, .cmf, .cop]

/-- The registers of the 64-byte block, one name per byte (10_state.md R41). The 16-bit registers have their
high byte at the lower address. -/
inductive IoName where
  | porta | pioc | portc | portb | portcl | ddrc | portd | ddrd | porte
  | cforc | oc1m | oc1d | tcntHi | tcntLo
  | tic1Hi | tic1Lo | tic2Hi | tic2Lo | tic3Hi | tic3Lo
  | toc1Hi | toc1Lo | toc2Hi | toc2Lo | toc3Hi | toc3Lo | toc4Hi | toc4Lo | ti4o5Hi | ti4o5Lo
  | tctl1 | tctl2 | tmsk1 | tflg1 | tmsk2 | tflg2 | pactl | pacnt
  | spcr | spsr | spdr | baud | sccr1 | sccr2 | scsr | scdr
  | adctl | adr1 | adr2 | adr3 | adr4 | bprot | option | coprst | pprog | hprio | init | test1 | config
  | reserved
deriving DecidableEq, Repr

/-- The register at an offset of the block (R41); offsets beyond `$3F` are not in the block. -/
def ioNameAt : Nat → IoName
  | 0x00 => .porta | 0x02 => .pioc | 0x03 => .portc | 0x04 => .portb | 0x05 => .portcl | 0x07 => .ddrc
  | 0x08 => .portd | 0x09 => .ddrd | 0x0A => .porte | 0x0B => .cforc | 0x0C => .oc1m | 0x0D => .oc1d
  | 0x0E => .tcntHi | 0x0F => .tcntLo | 0x10 => .tic1Hi | 0x11 => .tic1Lo | 0x12 => .tic2Hi | 0x13 => .tic2Lo
  | 0x14 => .tic3Hi | 0x15 => .tic3Lo | 0x16 => .toc1Hi | 0x17 => .toc1Lo | 0x18 => .toc2Hi | 0x19 => .toc2Lo
  | 0x1A => .toc3Hi | 0x1B => .toc3Lo | 0x1C => .toc4Hi | 0x1D => .toc4Lo | 0x1E => .ti4o5Hi | 0x1F => .ti4o5Lo
  | 0x20 => .tctl1 | 0x21 => .tctl2 | 0x22 => .tmsk1 | 0x23 => .tflg1 | 0x24 => .tmsk2 | 0x25 => .tflg2
  | 0x26 => .pactl | 0x27 => .pacnt | 0x28 => .spcr | 0x29 => .spsr | 0x2A => .spdr | 0x2B => .baud
  | 0x2C => .sccr1 | 0x2D => .sccr2 | 0x2E => .scsr | 0x2F => .scdr | 0x30 => .adctl | 0x31 => .adr1
  | 0x32 => .adr2 | 0x33 => .adr3 | 0x34 => .adr4 | 0x35 => .bprot | 0x39 => .option | 0x3A => .coprst
  | 0x3B => .pprog | 0x3C => .hprio | 0x3D => .init | 0x3E => .test1 | 0x3F => .config
  | _ => .reserved

end Sys2Proof.Machine
end

