-- ==== Sys2Proof/Config.lean ====
section
/-! DEFINITION. What the spec leaves to the platform (00_scope.md R7), as one record of parameters, and the free
values: constants without a body, so that nothing can be proved of what they are (93_implementation_defined.md,
log entry 5). -/

namespace Sys2Proof

/-- A byte the spec leaves open, `any_u8()` (R10): the value of the `n`-th draw. -/
opaque Config.freeByte : Nat → Byte

/-- A word the spec leaves open, `any_u16()` (R10): the value of the `n`-th draw. -/
opaque Config.freeWord : Nat → Word

/-- A bit the spec leaves open, `any_bit()` (R10): the value of the `n`-th draw. -/
opaque Config.freeBit : Nat → Bool

namespace Config

/-- What MEMORY_MAP says of an address (R7, 20_memory.md R72 R73). -/
inductive MemKind where
  | ram | rom | io | unmapped
deriving DecidableEq, Repr

/-- A run of `size` addresses from `base` (modulo 65536) of one kind. -/
structure Region where
  base : Word
  size : Nat
  kind : MemKind
deriving DecidableEq, Repr

/-- Parameter MODE (R7, 60_exceptions.md R466). -/
inductive OpMode where
  | normal | specialTest
deriving DecidableEq, Repr

/-- Parameter ILLOP_RETURN_PC (R7, 60_exceptions.md R460). -/
inductive IllopReturnPc where
  | opcodeAddress | afterOpcode
deriving DecidableEq, Repr

/-- Parameter TCTL2_LAYOUT (R7, 60_exceptions.md R471). -/
inductive Tctl2Layout where
  | asSource | shifted
deriving DecidableEq, Repr

/-- The parameters of 00_scope.md R7 a step can depend on. A run has one value of them; no step writes them.
`END_PC` and `STEP_BUDGET` are the host's and stand in Safety.lean; RAM_SIZE, ROM_SIZE and EEPROM_SIZE are used
by no rule and are folded into the memory map. -/
structure Params where
  /-- REG_BASE. -/
  regBase : Word
  /-- MEMORY_MAP: the first region that holds an address gives its kind; an address in none is I/O in the
  register block and RAM elsewhere. -/
  memoryMap : List Region
  /-- E_CLOCK_HZ. -/
  eClockHz : Nat
  mode : OpMode
  illopReturnPc : IllopReturnPc
  /-- PROMOTED_SOURCE. -/
  promotedSource : Option Machine.Maskable
  tctl2Layout : Tctl2Layout
deriving DecidableEq, Repr

/-- The defaults of R7. -/
def Params.default : Params :=
  { regBase := 0x1000, memoryMap := [], eClockHz := 2000000, mode := .normal,
    illopReturnPc := .opcodeAddress, promotedSource := none, tctl2Layout := .asSource }

end Config

end Sys2Proof
end

