-- ==== Sys2Proof/Syntax.lean ====
section
/-! DEFINITION. The instructions, one constructor per mnemonic of spec/opcode_table.json in the table's order, with
the operand form as its arguments (30_encoding.md R91, R96-R102). The second names of R109 (BHS, BLO, LSL, LSLA,
LSLB, LSLD) have constructors too, because the table has rows for them; their bytes decode to the first name. -/

namespace Sys2Proof

/-- A memory operand: DIR, EXT, IND,X or IND,Y with the operand bytes the instruction carries (R97-R100). -/
inductive Ea where
  | dir (dd : Byte)
  | ext (hhll : Word)
  | indx (ff : Byte)
  | indy (ff : Byte)
deriving DecidableEq, Repr

/-- An 8-bit source operand: IMM `ii`, or the byte at a memory operand (R96, R113). -/
inductive Src8 where
  | imm (ii : Byte)
  | mem (ea : Ea)
deriving DecidableEq, Repr

/-- A 16-bit source operand: IMM `jj kk`, or the two bytes at a memory operand (R96, R113). -/
inductive Src16 where
  | imm (jjkk : Word)
  | mem (ea : Ea)
deriving DecidableEq, Repr

/-- The instruction set. `rr` is the branch offset byte, `mm` the mask byte (R101, R102). -/
inductive Instr where
  /-- ABA (R130). -/
  | aba
  /-- ABX (R131). -/
  | abx
  /-- ABY (R132). -/
  | aby
  /-- ADCA (R133). -/
  | adca (m : Src8)
  /-- ADCB (R134). -/
  | adcb (m : Src8)
  /-- ADDA (R135). -/
  | adda (m : Src8)
  /-- ADDB (R136). -/
  | addb (m : Src8)
  /-- ADDD (R137). -/
  | addd (m : Src16)
  /-- ANDA (R138). -/
  | anda (m : Src8)
  /-- ANDB (R139). -/
  | andb (m : Src8)
  /-- ASL (R140). -/
  | asl (ea : Ea)
  /-- ASLA (R141). -/
  | asla
  /-- ASLB (R142). -/
  | aslb
  /-- ASLD (R143). -/
  | asld
  /-- ASR (R144). -/
  | asr (ea : Ea)
  /-- ASRA (R145). -/
  | asra
  /-- ASRB (R146). -/
  | asrb
  /-- BCC (R161). -/
  | bcc (rr : Byte)
  /-- BCS (R162). -/
  | bcs (rr : Byte)
  /-- BEQ (R163). -/
  | beq (rr : Byte)
  /-- BGE (R164). -/
  | bge (rr : Byte)
  /-- BGT (R165). -/
  | bgt (rr : Byte)
  /-- BHI (R166). -/
  | bhi (rr : Byte)
  /-- BHS (R161). -/
  | bhs (rr : Byte)
  /-- BLE (R167). -/
  | ble (rr : Byte)
  /-- BLO (R162). -/
  | blo (rr : Byte)
  /-- BLS (R168). -/
  | bls (rr : Byte)
  /-- BLT (R169). -/
  | blt (rr : Byte)
  /-- BMI (R170). -/
  | bmi (rr : Byte)
  /-- BNE (R171). -/
  | bne (rr : Byte)
  /-- BPL (R172). -/
  | bpl (rr : Byte)
  /-- BRA (R173). -/
  | bra (rr : Byte)
  /-- BRN (R175). -/
  | brn (rr : Byte)
  /-- BSR (R176). -/
  | bsr (rr : Byte)
  /-- BVC (R177). -/
  | bvc (rr : Byte)
  /-- BVS (R178). -/
  | bvs (rr : Byte)
  /-- BCLR (R190). -/
  | bclr (ea : Ea) (mm : Byte)
  /-- BSET (R191). -/
  | bset (ea : Ea) (mm : Byte)
  /-- BRCLR (R192). -/
  | brclr (ea : Ea) (mm rr : Byte)
  /-- BRSET (R193). -/
  | brset (ea : Ea) (mm rr : Byte)
  /-- BITA (R194). -/
  | bita (m : Src8)
  /-- BITB (R195). -/
  | bitb (m : Src8)
  /-- CBA (R210). -/
  | cba
  /-- CLC (R211). -/
  | clc
  /-- CLI (R212). -/
  | cli
  /-- CLR (R213). -/
  | clr (ea : Ea)
  /-- CLRA (R214). -/
  | clra
  /-- CLRB (R215). -/
  | clrb
  /-- CLV (R216). -/
  | clv
  /-- CMPA (R217). -/
  | cmpa (m : Src8)
  /-- CMPB (R218). -/
  | cmpb (m : Src8)
  /-- COM (R219). -/
  | com (ea : Ea)
  /-- COMA (R220). -/
  | coma
  /-- COMB (R221). -/
  | comb
  /-- CPD (R222). -/
  | cpd (m : Src16)
  /-- CPX (R223). -/
  | cpx (m : Src16)
  /-- CPY (R224). -/
  | cpy (m : Src16)
  /-- DAA (R250). -/
  | daa
  /-- DEC (R251). -/
  | dec (ea : Ea)
  /-- DECA (R252). -/
  | deca
  /-- DECB (R253). -/
  | decb
  /-- DES (R254). -/
  | des
  /-- DEX (R255). -/
  | dex
  /-- DEY (R256). -/
  | dey
  /-- EORA (R257). -/
  | eora (m : Src8)
  /-- EORB (R258). -/
  | eorb (m : Src8)
  /-- FDIV (R264). -/
  | fdiv
  /-- IDIV (R262). -/
  | idiv
  /-- INC (R265). -/
  | inc (ea : Ea)
  /-- INCA (R266). -/
  | inca
  /-- INCB (R267). -/
  | incb
  /-- INS (R268). -/
  | ins
  /-- INX (R269). -/
  | inx
  /-- INY (R270). -/
  | iny
  /-- JMP (R290). -/
  | jmp (ea : Ea)
  /-- JSR (R291). -/
  | jsr (ea : Ea)
  /-- LDAA (R292). -/
  | ldaa (m : Src8)
  /-- LDAB (R293). -/
  | ldab (m : Src8)
  /-- LDD (R294). -/
  | ldd (m : Src16)
  /-- LDS (R295). -/
  | lds (m : Src16)
  /-- LDX (R296). -/
  | ldx (m : Src16)
  /-- LDY (R297). -/
  | ldy (m : Src16)
  /-- LSL (R140). -/
  | lsl (ea : Ea)
  /-- LSLA (R141). -/
  | lsla
  /-- LSLB (R142). -/
  | lslb
  /-- LSLD (R143). -/
  | lsld
  /-- LSR (R299). -/
  | lsr (ea : Ea)
  /-- LSRA (R300). -/
  | lsra
  /-- LSRB (R301). -/
  | lsrb
  /-- LSRD (R302). -/
  | lsrd
  /-- MUL (R330). -/
  | mul
  /-- NEG (R331). -/
  | neg (ea : Ea)
  /-- NEGA (R332). -/
  | nega
  /-- NEGB (R333). -/
  | negb
  /-- NOP (R338). -/
  | nop
  /-- ORAA (R339). -/
  | oraa (m : Src8)
  /-- ORAB (R340). -/
  | orab (m : Src8)
  /-- PSHA (R341). -/
  | psha
  /-- PSHB (R342). -/
  | pshb
  /-- PSHX (R343). -/
  | pshx
  /-- PSHY (R344). -/
  | pshy
  /-- PULA (R345). -/
  | pula
  /-- PULB (R346). -/
  | pulb
  /-- PULX (R347). -/
  | pulx
  /-- PULY (R348). -/
  | puly
  /-- ROL (R360). -/
  | rol (ea : Ea)
  /-- ROLA (R361). -/
  | rola
  /-- ROLB (R362). -/
  | rolb
  /-- ROR (R363). -/
  | ror (ea : Ea)
  /-- RORA (R364). -/
  | rora
  /-- RORB (R365). -/
  | rorb
  /-- RTI (R366). -/
  | rti
  /-- RTS (R367). -/
  | rts
  /-- SBA (R370). -/
  | sba
  /-- SBCA (R371). -/
  | sbca (m : Src8)
  /-- SBCB (R372). -/
  | sbcb (m : Src8)
  /-- SEC (R373). -/
  | sec
  /-- SEI (R374). -/
  | sei
  /-- SEV (R375). -/
  | sev
  /-- STAA (R376). -/
  | staa (ea : Ea)
  /-- STAB (R377). -/
  | stab (ea : Ea)
  /-- STD (R378). -/
  | std (ea : Ea)
  /-- STOP (R384). -/
  | stop
  /-- STS (R385). -/
  | sts (ea : Ea)
  /-- STX (R386). -/
  | stx (ea : Ea)
  /-- STY (R387). -/
  | sty (ea : Ea)
  /-- SUBA (R388). -/
  | suba (m : Src8)
  /-- SUBB (R389). -/
  | subb (m : Src8)
  /-- SUBD (R390). -/
  | subd (m : Src16)
  /-- SWI (R391). -/
  | swi
  /-- TAB (R410). -/
  | tab
  /-- TAP (R411). -/
  | tap
  /-- TBA (R412). -/
  | tba
  /-- TEST (R420). -/
  | test
  /-- TPA (R413). -/
  | tpa
  /-- TST (R414). -/
  | tst (ea : Ea)
  /-- TSTA (R415). -/
  | tsta
  /-- TSTB (R416). -/
  | tstb
  /-- TSX (R417). -/
  | tsx
  /-- TSY (R418). -/
  | tsy
  /-- TXS (R419). -/
  | txs
  /-- TYS (R421). -/
  | tys
  /-- WAI (R432). -/
  | wai
  /-- XGDX (R433). -/
  | xgdx
  /-- XGDY (R434). -/
  | xgdy
deriving DecidableEq, Repr

/-- The instruction an instruction's bytes stand for: a second name of R109 becomes the first name. -/
def Instr.core : Instr → Instr
  | .bhs rr => .bcc rr
  | .blo rr => .bcs rr
  | .lsl ea => .asl ea
  | .lsla => .asla
  | .lslb => .aslb
  | .lsld => .asld
  | i => i

end Sys2Proof
end

