-- ==== Sys2Proof/Machine/State.lean ====
section
/-! DEFINITION. The machine's state as plain data: the seven registers (10_state.md R20-R27), memory (20_memory.md
R60), the hidden state of R42-R44, the register block's registers whose behaviour the spec gives
(60_exceptions.md R470-R476), the parameters of 00_scope.md R7 and the model's own bookkeeping. -/

namespace Sys2Proof.Machine

/-- Memory: the bytes that differ from what an unlisted address reads as, addresses strictly rising. -/
abbrev Memory := List Host.Cell

/-- `run_state` (R43). -/
inductive RunState where
  | running | waiting | stopped | hung
deriving DecidableEq, Repr

/-- An access to an I/O address, recorded as R72 asks: the address and the byte read or written. -/
inductive IoEvent where
  | read (a : Word) (v : Byte)
  | write (a : Word) (v : Byte)
deriving DecidableEq, Repr

/-- The five output compares (60_exceptions.md R468, R470, R473). -/
inductive Compare where
  | oc1 | oc2 | oc3 | oc4 | oc5
deriving DecidableEq, Repr

/-- The input captures (R468, R471); IC4 shares its register and flag with OC5. -/
inductive Capture where
  | ic1 | ic2 | ic3 | ic4
deriving DecidableEq, Repr

/-- An edge on a capture pin (R471). -/
inductive Edge where
  | rising | falling
deriving DecidableEq, Repr

/-- What happens in the timer (R467, R468): the free-running counter TCNT reaches a count, or an edge arrives on a capture
pin while TCNT stands at a count. TCNT itself is the environment's (R467). -/
inductive TimerEvent where
  | count (count : Word)
  | capture (n : Capture) (e : Edge) (count : Word)
deriving DecidableEq, Repr

/-- What the environment can do at a step boundary (R452, R453, R463, R468): move a request line, assert a reset, or let
something happen in the timer. -/
inductive EnvEvent where
  | assertLine (l : Line)
  | withdrawLine (l : Line)
  | assertReset (c : ResetCause)
  | timer (e : TimerEvent)
deriving DecidableEq, Repr

/-- The registers of the block whose behaviour the spec gives (R468-R476). `pins` holds the levels driven on
Port A's pins; it is not what a read of PORTA returns, which the spec does not say. `toc5` is TIC4/TOC5, one register
with two uses (R468). -/
@[ext]
structure IoRegs where
  tctl1 : Byte
  tctl2 : Byte
  tmsk1 : Byte
  tflg1 : Byte
  oc1m : Byte
  oc1d : Byte
  pins : Byte
  toc1 : Word
  toc2 : Word
  toc3 : Word
  toc4 : Word
  toc5 : Word
  tic1 : Word
  tic2 : Word
  tic3 : Word
deriving DecidableEq, Repr

/-- The state of the machine. -/
@[ext]
structure State where
  /-- Accumulator A (R21). -/
  a : Byte
  /-- Accumulator B (R21). -/
  b : Byte
  /-- Index register X (R23). -/
  x : Word
  /-- Index register Y (R23). -/
  y : Word
  /-- Stack pointer: the next free byte (R24). -/
  sp : Word
  /-- Program counter (R25). -/
  pc : Word
  /-- Condition code register, bits 7..0 = S X H I N Z V C (R27). -/
  ccr : Byte
  /-- Memory (R60). -/
  mem : Memory
  /-- `run_state` (R43). -/
  run : RunState
  /-- `irq_inhibit` (R44). -/
  irqInhibit : Bool
  /-- The part of `pending` the environment holds itself (R42, R452); the timer sources are in `io` (R474). -/
  lines : List Line
  /-- The resets asserted and not yet performed (R453, R463). -/
  resets : List ResetCause
  /-- The modelled registers of the block. -/
  io : IoRegs
  /-- The I/O accesses made, newest first (R72). -/
  events : List IoEvent
  /-- The parameters of the run (R7); no step writes them. -/
  cfg : Config.Params
  /-- The model's own: how many free values have been drawn (log entry 5). -/
  draws : Nat
  /-- The model's own: what the environment does at each coming step boundary (log entry 14). -/
  script : List (List EnvEvent)
  /-- The model's own: what happens in the timer just before each coming byte access to an I/O address, so also between
  the two bytes of one instruction's access (20_memory.md R71, log entry 34). -/
  busScript : List (List TimerEvent)
deriving DecidableEq, Repr

/-- Why the machine stops with a fault. There is none: the hardware has no access, alignment, arithmetic or
privilege fault, and its two traps are entered as the spec describes (R459). -/
inductive Fault where
deriving DecidableEq, Repr

/-- Why an instruction has no meaning. -/
inductive Refusal where
  /-- Raised by an arm of `exec` for an instruction that has no meaning yet; safe. No arm raises it. -/
  | notModelled (mnemonic : String)
deriving DecidableEq, Repr

/-- The register block after power-on: TMSK1 is 0 (70_reset_and_hazards.md R501); the spec gives no other value,
and the model names 0 (log entry 3). -/
def IoRegs.reset : IoRegs :=
  { tctl1 := 0, tctl2 := 0, tmsk1 := 0, tflg1 := 0, oc1m := 0, oc1d := 0, pins := 0, toc1 := 0, toc2 := 0, toc3 := 0,
    toc4 := 0, toc5 := 0, tic1 := 0, tic2 := 0, tic3 := 0 }

/-- The machine right after reset with nothing loaded: S = X = I = 1, running, no inhibit (R46, R500). PC is the
word at `$FFFE` of the empty memory, `$0000`. A, B, X, Y, SP and H N Z V C have no reset value in the spec; the
model names 0 (log entry 2). R46 leaves `pending` to the environment; that no request line and no reset is asserted here
and that both scripts are empty is the model's choice (log entry 33). -/
def State.reset : State :=
  { a := 0, b := 0, x := 0, y := 0, sp := 0, pc := 0, ccr := 0xD0, mem := [], run := .running,
    irqInhibit := false, lines := [], resets := [], io := IoRegs.reset, events := [],
    cfg := Config.Params.default, draws := 0, script := [], busScript := [] }

end Sys2Proof.Machine
end

