-- ==== Sys2Proof/Machine/Flags.lean ====
section
/-! DEFINITION. The condition code register (10_state.md R27) and every flag computation the spec gives: NZ8, NZ16,
ADD8, SUB8, ADD16, SUB16 (R33-R38), the shifts and rotates (40_a_add_and_shift.md R140-R146, 45_j_l.md R299-R302,
47_r_s.md R360-R365), increment, decrement, complement, decimal adjust, multiply and the branch conditions. -/

namespace Sys2Proof.Machine

/-- The bits of CCR (R27). -/
inductive Flag where
  | s | x | h | i | n | z | v | c
deriving DecidableEq, Repr

/-- The bit of CCR a flag is (R27). -/
def Flag.bit : Flag → Nat
  | .s => 7 | .x => 6 | .h => 5 | .i => 4 | .n => 3 | .z => 2 | .v => 1 | .c => 0

/-- Read one bit of a CCR value. -/
def ccrGet (ccr : Byte) (f : Flag) : Bool := ccr.getLsbD f.bit

/-- A byte with the one bit of a flag. -/
def Flag.mask (f : Flag) : Byte := BitVec.ofNat 8 (2 ^ f.bit)

/-- Write one bit of a CCR value; the other seven keep theirs. -/
def ccrSet (ccr : Byte) (f : Flag) (v : Bool) : Byte :=
  if v then ccr ||| f.mask else ccr &&& ~~~ f.mask

/-- The flag as `CCR.f` of the pseudocode (R10). -/
def State.flag (s : State) (f : Flag) : Bool := ccrGet s.ccr f

/-- A result with its N, Z, V and C. -/
@[ext] structure Arith (w : Nat) where
  r : BitVec w
  n : Bool
  z : Bool
  v : Bool
  c : Bool
deriving DecidableEq, Repr

/-- N of NZ8 and NZ16: the most significant bit of the result (R33, R34). -/
def flagN {w : Nat} (r : BitVec w) : Bool := r.msb

/-- Z of NZ8 and NZ16 (R33, R34). -/
def flagZ {w : Nat} (r : BitVec w) : Bool := decide (r = 0)

/-- ADD8 and ADD16 with a carry in (R35, R37): the sum, with C for a sum beyond the width and V when the operands
agree in sign and the result does not. -/
def addFlags {w : Nat} (a m : BitVec w) (cin : Bool) : Arith w :=
  let s := a.toNat + m.toNat + cin.toNat
  let r := BitVec.ofNat w s
  { r := r, n := flagN r, z := flagZ r, v := (a.msb == m.msb) && (r.msb != a.msb), c := decide (2 ^ w ≤ s) }

/-- H of ADD8: the carry from bit 3 to bit 4 (R35). -/
def addHalf (a m : Byte) (cin : Bool) : Bool :=
  decide (15 < a.toNat % 16 + m.toNat % 16 + cin.toNat)

/-- SUB8 and SUB16 with a borrow in (R36, R38): C is the borrow, V when the operands differ in sign and the result's
differs from the minuend's. -/
def subFlags {w : Nat} (a m : BitVec w) (bin : Bool) : Arith w :=
  let d : Int := (a.toNat : Int) - m.toNat - bin.toNat
  let r := BitVec.ofInt w d
  { r := r, n := flagN r, z := flagZ r, v := (a.msb != m.msb) && (r.msb != a.msb), c := decide (d < 0) }

/-- A shift or rotate: N and Z from the result, C the bit shifted out, V = N xor C (R140, R144, R299, R360, R363). -/
def shifted {w : Nat} (r : BitVec w) (out : Bool) : Arith w :=
  { r := r, n := flagN r, z := flagZ r, v := flagN r ^^ out, c := out }

/-- ASL, LSL, ASLD (R140, R143): 0 enters bit 0, the top bit leaves. -/
def aslFlags {w : Nat} (m : BitVec w) : Arith w := shifted (m <<< 1) m.msb

/-- ASR (R144): the top bit keeps its value, bit 0 leaves. -/
def asrFlags {w : Nat} (m : BitVec w) : Arith w := shifted (m.sshiftRight 1) (m.getLsbD 0)

/-- LSR, LSRD (R299, R302): 0 enters the top bit, bit 0 leaves. -/
def lsrFlags {w : Nat} (m : BitVec w) : Arith w := shifted (m >>> 1) (m.getLsbD 0)

/-- ROL (R360): the old C enters bit 0, bit 7 leaves. -/
def rolFlags (m : Byte) (cin : Bool) : Arith 8 := shifted ((m <<< 1) ||| bitByte cin) m.msb

/-- ROR (R363): the old C enters bit 7, bit 0 leaves. -/
def rorFlags (m : Byte) (cin : Bool) : Arith 8 := shifted ((m >>> 1) ||| (bitByte cin <<< 7)) (m.getLsbD 0)

/-- COM (43_c_compare_clear.md R219): V cleared, C set. -/
def comFlags (m : Byte) : Arith 8 := { r := ~~~ m, n := flagN (~~~ m), z := flagZ (~~~ m), v := false, c := true }

/-- NEG (46_m_n_o_p.md R331): SUB8 from 0. -/
def negFlags (m : Byte) : Arith 8 := subFlags 0 m false

/-- CLR (R213): result 0, N = 0 Z = 1 V = 0 C = 0. -/
def clrFlags : Arith 8 := { r := 0, n := false, z := true, v := false, c := false }

/-- TST (48_t_w_x.md R414): N and Z of the operand, V and C cleared. -/
def tstFlags (m : Byte) : Arith 8 := { r := m, n := flagN m, z := flagZ m, v := false, c := false }

/-- INC (44_d_e_f_i.md R265): V when the operand was `$7F`; `c` is the C kept. -/
def incFlags (m : Byte) (c : Bool) : Arith 8 :=
  { r := m + 1, n := flagN (m + 1), z := flagZ (m + 1), v := decide (m = 0x7F), c := c }

/-- DEC (R251): V when the operand was `$80`; `c` is the C kept. -/
def decFlags (m : Byte) (c : Bool) : Arith 8 :=
  { r := m - 1, n := flagN (m - 1), z := flagZ (m - 1), v := decide (m = 0x80), c := c }

/-- Whether DAA adds `$06` (R250). -/
def daaLow (a : Byte) (h : Bool) : Bool := h || decide (9 < a.toNat % 16)

/-- Whether DAA adds `$60` and leaves C set (R250). -/
def daaHigh (a : Byte) (c : Bool) : Bool :=
  c || decide (9 < a.toNat / 16) || (decide (9 ≤ a.toNat / 16) && decide (9 < a.toNat % 16))

/-- The result of DAA (R250): the wrapped sum of A and the correction. -/
def daaResult (a : Byte) (h c : Bool) : Byte :=
  a + (if daaLow a h then 0x06 else 0x00) + (if daaHigh a c then 0x60 else 0x00)

/-- N and Z and V into a CCR value, V given. -/
def ccrNZV (ccr : Byte) (n z v : Bool) : Byte := ccrSet (ccrSet (ccrSet ccr .n n) .z z) .v v

/-- N, Z, V and C into a CCR value. -/
def ccrNZVC {w : Nat} (ccr : Byte) (f : Arith w) : Byte := ccrSet (ccrNZV ccr f.n f.z f.v) .c f.c

/-- The CCR a TAP or RTI leaves: every bit of the new value, but X only where it was already 1 (R29, R411, R366). -/
def ccrLoad (old new : Byte) : Byte := (new &&& 0xBF) ||| (new &&& old &&& 0x40)

/-- The branch conditions (41_b_branch.md R161-R178). -/
inductive Cond where
  | always | never | hi | ls | cc | cs | ne | eq | vc | vs | pl | mi | ge | lt | gt | le
deriving DecidableEq, Repr

/-- Whether a condition holds of a CCR value (R161-R178). -/
def Cond.holds (k : Cond) (ccr : Byte) : Bool :=
  let n := ccrGet ccr .n
  let z := ccrGet ccr .z
  let v := ccrGet ccr .v
  let c := ccrGet ccr .c
  match k with
  | .always => true
  | .never => false
  | .hi => !(c || z)
  | .ls => c || z
  | .cc => !c
  | .cs => c
  | .ne => !z
  | .eq => z
  | .vc => !v
  | .vs => v
  | .pl => !n
  | .mi => n
  | .ge => !(n ^^ v)
  | .lt => n ^^ v
  | .gt => !(z || (n ^^ v))
  | .le => z || (n ^^ v)

end Sys2Proof.Machine
end

