-- ==== Sys2Proof/Machine/Ops.lean ====
section
/-! DEFINITION. The named operations over the state: register and flag writes, free values, memory and its kinds
(20_memory.md R60-R73), the register block (60_exceptions.md R467-R477), the stack (R74-R77), taking an exception
(60_exceptions.md R455) and the return from one (47_r_s.md R366). -/

namespace Sys2Proof.Machine

open Sys2Proof.Config

/-! ### Writes of one field -/

def State.setA (s : State) (v : Byte) : State := { s with a := v }
def State.setB (s : State) (v : Byte) : State := { s with b := v }
def State.setX (s : State) (v : Word) : State := { s with x := v }
def State.setY (s : State) (v : Word) : State := { s with y := v }
def State.setSp (s : State) (v : Word) : State := { s with sp := v }
def State.setPc (s : State) (v : Word) : State := { s with pc := v }
def State.setCcr (s : State) (v : Byte) : State := { s with ccr := v }
def State.setMem (s : State) (v : Memory) : State := { s with mem := v }
def State.setRun (s : State) (v : RunState) : State := { s with run := v }
def State.setIrqInhibit (s : State) (v : Bool) : State := { s with irqInhibit := v }
def State.setLines (s : State) (v : List Line) : State := { s with lines := v }
def State.setResets (s : State) (v : List ResetCause) : State := { s with resets := v }
def State.setIo (s : State) (v : IoRegs) : State := { s with io := v }
def State.setEvents (s : State) (v : List IoEvent) : State := { s with events := v }
def State.setCfg (s : State) (v : Params) : State := { s with cfg := v }
def State.setDraws (s : State) (v : Nat) : State := { s with draws := v }
def State.setScript (s : State) (v : List (List EnvEvent)) : State := { s with script := v }
def State.setBusScript (s : State) (v : List (List TimerEvent)) : State := { s with busScript := v }

/-- `D`, the word A : B (10_state.md R22). -/
def State.d (s : State) : Word := cat16 s.a s.b

/-- `D <- v` (R22): A takes the high byte, B the low byte. -/
def State.setD (s : State) (v : Word) : State := (s.setA (hi v)).setB (lo v)

/-- `CCR.f <- v` (R10). -/
def State.setFlag (s : State) (f : Flag) (v : Bool) : State := s.setCcr (ccrSet s.ccr f v)

/-! ### Free values (93_implementation_defined.md section 1) -/

/-- `any_u8()`: a fresh free byte. -/
def drawByte (s : State) : Byte × State := (freeByte s.draws, s.setDraws (s.draws + 1))

/-- `any_u16()`: a fresh free word. -/
def drawWord (s : State) : Word × State := (freeWord s.draws, s.setDraws (s.draws + 1))

/-- `any_bit()`: a fresh free bit. -/
def drawBit (s : State) : Bool × State := (freeBit s.draws, s.setDraws (s.draws + 1))

/-! ### Stored memory -/

/-- What a byte of memory that nothing has written reads as (log entry 1). -/
def blankByte : Byte := 0

/-- The byte stored at an address. -/
def Memory.read : Memory → Nat → Byte
  | [], _ => blankByte
  | (k, v) :: t, a => if k = a then v else Memory.read t a

/-- Store a byte, keeping the canonical form. -/
def Memory.write : Memory → Nat → Byte → Memory
  | [], a, v => if v = blankByte then [] else [(a, v)]
  | (k, w) :: t, a, v =>
    if a < k then
      if v = blankByte then (k, w) :: t else (a, v) :: (k, w) :: t
    else if a = k then
      if v = blankByte then t else (a, v) :: t
    else (k, w) :: Memory.write t a v

/-- The canonical form: addresses strictly rising and in the 64 KiB space, no entry that an unlisted address
would read as. -/
abbrev Memory.wf (m : Memory) : Prop :=
  m.Pairwise (fun p q => p.1 < q.1) ∧ ∀ p ∈ m, p.2 ≠ blankByte ∧ p.1 < 65536

/-- The stored byte at an address of the machine: what the host would see there. -/
def State.stored (s : State) (a : Word) : Byte := s.mem.read a.toNat

/-- Store a byte at an address whatever its kind (the host's load, 70_reset_and_hazards.md R509). -/
def State.store (s : State) (a : Word) (v : Byte) : State := s.setMem (s.mem.write a.toNat v)

/-! ### Kinds of address -/

/-- A region holds an address (addresses wrap modulo 65536, R83). -/
def regionHas (r : Region) (a : Word) : Bool := decide ((a - r.base).toNat < r.size)

/-- The offset of an address from REG_BASE. -/
def regOffset (p : Params) (a : Word) : Nat := (a - p.regBase).toNat

/-- The address is in the 64-byte register block (10_state.md R40). -/
def inBlock (p : Params) (a : Word) : Bool := decide (regOffset p a < 64)

/-- The kind MEMORY_MAP gives an address (00_scope.md R7). -/
def kindAt (p : Params) (a : Word) : MemKind :=
  match p.memoryMap.find? (fun r => regionHas r a) with
  | some r => r.kind
  | none => if inBlock p a then .io else .ram

/-- The register at an I/O address; an I/O address outside the block is some device of the platform. -/
def ioNameOf (p : Params) (a : Word) : IoName :=
  if inBlock p a then ioNameAt (regOffset p a) else .reserved

/-! ### The register block (60_exceptions.md R467-R477) -/

/-- The bit of an output compare in TFLG1, TMSK1, CFORC, OC1M and on Port A (R472-R474, R476). -/
def compareBit : Compare → Nat
  | .oc1 => 7 | .oc2 => 6 | .oc3 => 5 | .oc4 => 4 | .oc5 => 3

/-- A byte with one bit set. -/
def bitMask (k : Nat) : Byte := BitVec.ofNat 8 (2 ^ k)

/-- `OMn:OLn` of TCTL1 as a number; OC1 has no pair (R470). -/
def compareAction (tctl1 : Byte) : Compare → Nat
  | .oc1 => 0
  | .oc2 => tctl1.toNat / 64
  | .oc3 => tctl1.toNat / 16 % 4
  | .oc4 => tctl1.toNat / 4 % 4
  | .oc5 => tctl1.toNat % 4

/-- The pin an action pair acts on, as a mask: none while the pair is `00` (R470). -/
def actionMask (tctl1 : Byte) (n : Compare) : Byte :=
  if compareAction tctl1 n = 0 then 0 else bitMask (compareBit n)

/-- The pins the timer drives: those whose pair is not `00` (R476). -/
def timerPins (tctl1 : Byte) : Byte :=
  actionMask tctl1 .oc2 ||| actionMask tctl1 .oc3 ||| actionMask tctl1 .oc4 ||| actionMask tctl1 .oc5

/-- The action of output compare n on its pin: `01` toggle, `10` low, `11` high (R470). -/
def actPin (io : IoRegs) (n : Compare) : IoRegs :=
  let m := bitMask (compareBit n)
  match compareAction io.tctl1 n with
  | 1 => { io with pins := io.pins ^^^ m }
  | 2 => { io with pins := io.pins &&& ~~~ m }
  | 3 => { io with pins := io.pins ||| m }
  | _ => io

/-- The pins OC1 controls: bits 7..3 of OC1M (R473). -/
def oc1Pins (io : IoRegs) : Byte := io.oc1m &&& 0xF8

/-- OC1's action: the pins it controls take OC1D (R473). -/
def actOc1 (io : IoRegs) : IoRegs :=
  { io with pins := (io.pins &&& ~~~ oc1Pins io) ||| (io.oc1d &&& oc1Pins io) }

/-- The pin action of any output compare (R470, R473). -/
def actCompare (io : IoRegs) : Compare → IoRegs
  | .oc1 => actOc1 io
  | n => actPin io n

/-- A store to PORTA drives the output pins PA6..PA3 that the timer does not drive (R476, log entry 9). What level a pin
takes when its pair goes back to `00` is not in the spec: the model keeps no latch of the byte stored, so the pin keeps
the level the timer left it at until the next store (log entry 32). -/
def drivePorta (io : IoRegs) (v : Byte) : IoRegs :=
  let m := 0x78 &&& ~~~ timerPins io.tctl1
  { io with pins := (io.pins &&& ~~~ m) ||| (v &&& m) }

/-- The compare register of an output compare (R468). -/
def compareReg (io : IoRegs) : Compare → Word
  | .oc1 => io.toc1 | .oc2 => io.toc2 | .oc3 => io.toc3 | .oc4 => io.toc4 | .oc5 => io.toc5

/-- One output compare's action, when its bit of `which` is set. -/
def actOne (which : Byte) (n : Compare) (io : IoRegs) : IoRegs :=
  if which.getLsbD (compareBit n) then actCompare io n else io

/-- The pins after the pairs of OC2 to OC5 whose bits are set in `which` have acted (R470). -/
def actPairs (which : Byte) (io : IoRegs) : IoRegs :=
  actOne which .oc5 (actOne which .oc4 (actOne which .oc3 (actOne which .oc2 io)))

/-- The pins on which OC1 and another output compare act and give different levels. Where the two give one level R470 and
R473 both hold of it, and it is no clash. -/
def clashPins (which : Byte) (io : IoRegs) : Byte :=
  if which.getLsbD 7 then oc1Pins io &&& which &&& timerPins io.tctl1 &&& ((actPairs which io).pins ^^^ io.oc1d) else 0

/-- The output compares whose bits are set in `which` act on their pins at once, each on the level before. Where OC1 and
another give one pin different levels the level is free (log entry 8). -/
def actAll (which : Byte) (s : State) : State :=
  let acted := actOne which .oc1 (actPairs which s.io)
  let clash := clashPins which s.io
  let level := drawByte s
  level.2.setIo { acted with pins := (acted.pins &&& ~~~ clash) ||| (level.1 &&& clash) }

/-- Set flags of TFLG1. -/
def raiseFlags (which : Byte) (s : State) : State := s.setIo { s.io with tflg1 := s.io.tflg1 ||| which }

/-- A write to CFORC (R472): each output compare whose bit is 1 acts on its pin at once; whether the flags are set is
free (log entry 7). -/
def forceCompare (v : Byte) (s : State) : State :=
  let t := actAll v s
  let flags := drawByte t
  raiseFlags (v &&& 0xF8 &&& flags.1) flags.2

/-- The high byte of a 16-bit register of the block written. -/
def withHi (r : Word) (v : Byte) : Word := cat16 v (lo r)

/-- The low byte of a 16-bit register of the block written. -/
def withLo (r : Word) (v : Byte) : Word := cat16 (hi r) v

/-- The bits of TCTL2 that exist in a layout (R471; the drawn zeros read 0 and ignore writes). -/
def tctl2Bits : Tctl2Layout → Byte
  | .asSource => 0xFC
  | .shifted => 0xFF

/-- What a store to a register of the block does (R468-R477). A register the spec gives no behaviour for keeps
nothing of what is written (R72). -/
def ioPut (n : IoName) (v : Byte) (s : State) : State :=
  match n with
  | .porta => s.setIo (drivePorta s.io v)
  | .cforc => forceCompare v s
  | .oc1m => s.setIo { s.io with oc1m := v }
  | .oc1d => s.setIo { s.io with oc1d := v }
  | .tctl1 => s.setIo { s.io with tctl1 := v }
  | .tctl2 => s.setIo { s.io with tctl2 := v &&& tctl2Bits s.cfg.tctl2Layout }
  | .tmsk1 => s.setIo { s.io with tmsk1 := v }
  | .tflg1 => s.setIo { s.io with tflg1 := s.io.tflg1 &&& ~~~ v }
  | .toc1Hi => s.setIo { s.io with toc1 := withHi s.io.toc1 v }
  | .toc1Lo => s.setIo { s.io with toc1 := withLo s.io.toc1 v }
  | .toc2Hi => s.setIo { s.io with toc2 := withHi s.io.toc2 v }
  | .toc2Lo => s.setIo { s.io with toc2 := withLo s.io.toc2 v }
  | .toc3Hi => s.setIo { s.io with toc3 := withHi s.io.toc3 v }
  | .toc3Lo => s.setIo { s.io with toc3 := withLo s.io.toc3 v }
  | .toc4Hi => s.setIo { s.io with toc4 := withHi s.io.toc4 v }
  | .toc4Lo => s.setIo { s.io with toc4 := withLo s.io.toc4 v }
  | .ti4o5Hi => s.setIo { s.io with toc5 := withHi s.io.toc5 v }
  | .ti4o5Lo => s.setIo { s.io with toc5 := withLo s.io.toc5 v }
  | _ => s

/-- What a load from a register of the block returns: the stored byte of a register of section 8, otherwise a fresh
free byte (R72), the 16-bit timer registers among them (70_reset_and_hazards.md R519, log entry 6); CFORC's bits 2..0
read 0 (R472). -/
def ioGet (n : IoName) (s : State) : Byte × State :=
  match n with
  | .oc1m => (s.io.oc1m, s)
  | .oc1d => (s.io.oc1d, s)
  | .tctl1 => (s.io.tctl1, s)
  | .tctl2 => (s.io.tctl2, s)
  | .tmsk1 => (s.io.tmsk1, s)
  | .tflg1 => (s.io.tflg1, s)
  | .cforc => ((drawByte s).1 &&& 0xF8, (drawByte s).2)
  | _ => drawByte s

/-- Record an I/O access (R72). -/
def logEvent (e : IoEvent) (s : State) : State := s.setEvents (e :: s.events)

/-! ### The timer (60_exceptions.md R467, R468, R470-R474) -/

/-- The bit of an input capture's flag in TFLG1 (R474). -/
def captureBit : Capture → Nat
  | .ic1 => 2 | .ic2 => 1 | .ic3 => 0 | .ic4 => 3

/-- `EDGxB:EDGxA` of TCTL2 as a number, in the layout of the run (R471); the source's layout has no pair for IC4. -/
def captureSelect (layout : Tctl2Layout) (tctl2 : Byte) (n : Capture) : Nat :=
  match layout, n with
  | .asSource, .ic1 => tctl2.toNat / 64
  | .asSource, .ic2 => tctl2.toNat / 16 % 4
  | .asSource, .ic3 => tctl2.toNat / 4 % 4
  | .asSource, .ic4 => 0
  | .shifted, .ic4 => tctl2.toNat / 64
  | .shifted, .ic1 => tctl2.toNat / 16 % 4
  | .shifted, .ic2 => tctl2.toNat / 4 % 4
  | .shifted, .ic3 => tctl2.toNat % 4

/-- Whether a pair detects an edge: `00` none, `01` rising, `10` falling, `11` any (R471). -/
def detects (pair : Nat) (e : Edge) : Bool :=
  match pair, e with
  | 1, .rising => true
  | 2, .falling => true
  | 3, _ => true
  | _, _ => false

/-- One output compare's bit, when its register equals the count. -/
def matchBit (io : IoRegs) (count : Word) (n : Compare) : Byte :=
  if compareReg io n = count then bitMask (compareBit n) else 0

/-- The output compares whose registers equal the count (R468). TIC4/TOC5 compares whatever its other use does: the spec
gives no selector of its two uses, so that both are live is the model's choice (log entry 31). -/
def matchMask (io : IoRegs) (count : Word) : Byte :=
  matchBit io count .oc1 ||| matchBit io count .oc2 ||| matchBit io count .oc3 ||| matchBit io count .oc4 |||
    matchBit io count .oc5

/-- A capture copies TCNT into its register (R468); IC4's is TIC4/TOC5, which also compares (log entry 31). -/
def latch (io : IoRegs) (count : Word) : Capture → IoRegs
  | .ic1 => { io with tic1 := count }
  | .ic2 => { io with tic2 := count }
  | .ic3 => { io with tic3 := count }
  | .ic4 => { io with toc5 := count }

/-- One event in the timer. When TCNT reaches a count, every output compare whose register equals it acts on its pin and
sets its flag (R468, R470, R473); a selected edge copies TCNT and sets its capture's flag (R468, R471). A flag is set
whether or not its enable is (R474). While the machine is stopped the timer's clock is stopped too and nothing happens
(47_r_s.md R384, R480). -/
def applyTimer (e : TimerEvent) (s : State) : State :=
  if s.run = .stopped then s
  else
    match e with
    | .count count => raiseFlags (matchMask s.io count) (actAll (matchMask s.io count) s)
    | .capture n k count =>
      if detects (captureSelect s.cfg.tctl2Layout s.io.tctl2 n) k then
        raiseFlags (bitMask (captureBit n)) (s.setIo (latch s.io count n))
      else s

/-- Events in the timer, in order. -/
def applyTimers : List TimerEvent → State → State
  | [], s => s
  | e :: t, s => applyTimers t (applyTimer e s)

/-- What happens in the timer just before a byte access to an I/O address: the first entry of `busScript`. A byte access is
indivisible, an access of two bytes is not (20_memory.md R71, 91_not_in_source.md N9, log entry 34). -/
def busTurn (s : State) : State :=
  match s.busScript with
  | [] => s
  | es :: t => applyTimers es (s.setBusScript t)

/-! ### MemRead and MemWrite (00_scope.md R10) -/

/-- `MemRead(a, 1)`: RAM and ROM give the stored byte, an I/O address its register's value as an event (R72), the
timer having had its turn (R71), an unmapped address a fresh free byte (R73). -/
def memRead (a : Word) (s : State) : Byte × State :=
  match kindAt s.cfg a with
  | .ram => (s.stored a, s)
  | .rom => (s.stored a, s)
  | .unmapped => drawByte s
  | .io =>
    let r := ioGet (ioNameOf s.cfg a) (busTurn s)
    (r.1, logEvent (.read a r.1) r.2)

/-- `MemWrite(a, 1, v)`: RAM stores, ROM and unmapped addresses ignore (R73), an I/O address does what its register
does, as an event (R72), the timer having had its turn (R71). -/
def memWrite (a : Word) (v : Byte) (s : State) : State :=
  match kindAt s.cfg a with
  | .ram => s.store a v
  | .rom => s
  | .unmapped => s
  | .io => ioPut (ioNameOf s.cfg a) v (logEvent (.write a v) (busTurn s))

/-- `MemRead(a, 2)`: the byte at `a` is the high byte and is read first (R64, R69). -/
def memRead16 (a : Word) (s : State) : Word × State :=
  let h := memRead a s
  let l := memRead (a + 1) h.2
  (cat16 h.1 l.1, l.2)

/-- `MemWrite(a, 2, v)`: the high byte at `a` is written first (R64, R69). -/
def memWrite16 (a : Word) (v : Word) (s : State) : State :=
  memWrite (a + 1) (lo v) (memWrite a (hi v) s)

/-! ### The stack (20_memory.md R74-R77) -/

/-- `Push8(v)` (R74). -/
def push8 (v : Byte) (s : State) : State :=
  let t := memWrite s.sp v s
  t.setSp (s.sp - 1)

/-- `Pull8()` (R75). -/
def pull8 (s : State) : Byte × State :=
  memRead (s.sp + 1) (s.setSp (s.sp + 1))

/-- `Push16(v)`: the low byte first (R76). -/
def push16 (v : Word) (s : State) : State := push8 (hi v) (push8 (lo v) s)

/-- `Pull16()`: the high byte first (R77). -/
def pull16 (s : State) : Word × State :=
  let h := pull8 s
  let l := pull8 h.2
  (cat16 h.1 l.1, l.2)

/-- `A <- Pull8()`. -/
def pullA (s : State) : State := (pull8 s).2.setA (pull8 s).1

/-- `B <- Pull8()`. -/
def pullB (s : State) : State := (pull8 s).2.setB (pull8 s).1

/-- `X <- Pull16()`. -/
def pullX (s : State) : State := (pull16 s).2.setX (pull16 s).1

/-- `Y <- Pull16()`. -/
def pullY (s : State) : State := (pull16 s).2.setY (pull16 s).1

/-- `PC <- Pull16()`. -/
def pullPc (s : State) : State := (pull16 s).2.setPc (pull16 s).1

/-- `CCR <- Pull8()`, X only from 1 to 0 (R29). -/
def pullCcr (s : State) : State := (pull8 s).2.setCcr (ccrLoad s.ccr (pull8 s).1)

/-! ### Taking an exception and returning from one -/

/-- The nine-byte frame (R455): PC, Y, X, A, B, CCR from the high address down. -/
def pushFrame (returnPc : Word) (s : State) : State :=
  let s1 := push16 s.x (push16 s.y (push16 returnPc s))
  push8 s.ccr (push8 s.b (push8 s.a s1))

/-- The masks an entry sets: I always, X for XIRQ only (R455). -/
def entryMask (src : TrapSource) (ccr : Byte) : Byte :=
  match src with
  | .xirq => ccrSet (ccrSet ccr .i true) .x true
  | _ => ccrSet ccr .i true

/-- `TrapEntry(src, return_pc, stack)` (R455): the one entry sequence of XIRQ, the maskable interrupts, SWI and the
illegal opcode trap. `stack` is false only for the wake-up from WAI, whose frame is already there. -/
def trapEntry (src : TrapSource) (returnPc : Word) (stack : Bool) (s : State) : State :=
  let s1 := if stack then pushFrame returnPc s else s
  let s2 := (s1.setCcr (entryMask src s1.ccr)).setIrqInhibit false
  let v := memRead16 (trapVector src) s2
  (v.2.setPc v.1).setRun .running

/-- The return from an exception, RTI (R366, R457): pulls CCR, B, A, X, Y, PC; X can only go from 1 to 0. -/
def returnFromInterrupt (s : State) : State := pullPc (pullY (pullX (pullA (pullB (pullCcr s)))))

/-- The illegal opcode trap (R460): `pc0` is the address of the offending sequence's first byte, the state has
fetched its prebyte and opcode. -/
def illegalOpcode (pc0 : Word) (s : State) : State :=
  match s.cfg.illopReturnPc with
  | .opcodeAddress => trapEntry .ill pc0 true s
  | .afterOpcode => trapEntry .ill s.pc true s

end Sys2Proof.Machine
end

