-- ==== Sys2Proof/Machine/Env.lean ====
section
/-! DEFINITION. What the environment does at a step boundary (60_exceptions.md R452, R463, R467, R468): it moves
request lines, asserts resets, and advances the timer. Which of these happen, and when, is the environment's choice: the
state's `script` says it (log entry 14). -/

namespace Sys2Proof.Machine

open Sys2Proof.Config

/-- One event of the environment. -/
def applyEvent (e : EnvEvent) (s : State) : State :=
  match e with
  | .assertLine l => if l ∈ s.lines then s else s.setLines (l :: s.lines)
  | .withdrawLine l => s.setLines (s.lines.filter (fun k => decide (k ≠ l)))
  | .assertReset c => if c ∈ s.resets then s else s.setResets (c :: s.resets)
  | .timer e => applyTimer e s

/-- Events in order. -/
def applyEvents : List EnvEvent → State → State
  | [], s => s
  | e :: t, s => applyEvents t (applyEvent e s)

/-- The environment's turn at a boundary: the first entry of the script; nothing when the script is over. -/
def envTurn (s : State) : State :=
  match s.script with
  | [] => s
  | es :: t => applyEvents es (s.setScript t)

end Sys2Proof.Machine
end

