-- ==== Sys2Proof/Machine/Boundary.lean ====
section
/-! DEFINITION. What happens at a step boundary before any instruction runs: which request is accepted (60_exceptions.md
R442, R453), the reset sequence (70_reset_and_hazards.md R500, R501), and the steps of a machine that waits
(48_t_w_x.md R432) or is stopped (47_r_s.md R384). -/

namespace Sys2Proof.Machine

/-! ### Requests -/

/-- The bit of a timer source in TFLG1 and TMSK1 (R474); the other sources have none the spec describes. -/
def timerBit : Maskable → Option Nat
  | .toc1 => some 7 | .toc2 => some 6 | .toc3 => some 5 | .toc4 => some 4 | .toc5 => some 3
  | .tic1 => some 2 | .tic2 => some 1 | .tic3 => some 0
  | _ => none

/-- The request line of a source that has one. -/
def maskableLine : Maskable → Option Line
  | .sci => some .sci | .spi => some .spi | .paie => some .paie | .paov => some .paov | .tof => some .tof
  | .rtii => some .rtii | .irq => some .irq
  | _ => none

/-- `m ∈ pending`: a timer source is pending exactly while its flag and its enable are both 1 (R474); any other while
its line is asserted (R452, log entry 10). -/
def requested (s : State) (m : Maskable) : Bool :=
  match timerBit m with
  | some k => s.io.tflg1.getLsbD k && s.io.tmsk1.getLsbD k
  | none =>
    match maskableLine m with
    | some l => decide (l ∈ s.lines)
    | none => false

/-- `XIRQ ∈ pending`. -/
def xirqRequested (s : State) : Bool := decide (Line.xirq ∈ s.lines)

/-- The pending maskable source of highest priority (R442). -/
def topMaskable (s : State) : Option Maskable :=
  (priorityOrder s.cfg.promotedSource).find? (fun m => requested s m)

/-- `Select()` without the inhibit: XIRQ while X = 0, then the top maskable source while I = 0 (R453, R432 (c)). -/
def selectUninhibited (s : State) : Option TrapSource :=
  if xirqRequested s && !s.flag .x then some .xirq
  else if s.flag .i then none
  else (topMaskable s).map .maskable

/-- `Select()` (R453): the inhibit holds off the maskable sources only. -/
def select (s : State) : Option TrapSource :=
  if xirqRequested s && !s.flag .x then some .xirq
  else if s.flag .i || s.irqInhibit then none
  else (topMaskable s).map .maskable

/-! ### Reset -/

/-- The asserted reset that outranks the others (R442). -/
def topReset (s : State) : Option ResetCause := resetOrder.find? (fun c => decide (c ∈ s.resets))

/-- The registers a reset leaves unspecified (R500): A, B, X, Y, SP become free values. -/
def freeRegisters (s : State) : State :=
  let a := drawByte s
  let b := drawByte a.2
  let x := drawWord b.2
  let y := drawWord x.2
  let p := drawWord y.2
  ((((p.2.setA a.1).setB b.1).setX x.1).setY y.1).setSp p.1

/-- CCR after a reset (R500): S = X = I = 1, the other five bits free. -/
def resetCcr (s : State) : State :=
  let c := drawByte s
  c.2.setCcr (c.1 ||| 0xD0)

/-- The register block after a reset: every local enable 0 (R501, K28), the rest free. -/
def resetIo (s : State) : State :=
  let t1 := drawByte s
  let t2 := drawByte t1.2
  let f := drawByte t2.2
  let m := drawByte f.2
  let d := drawByte m.2
  let p := drawByte d.2
  let c1 := drawWord p.2
  let c2 := drawWord c1.2
  let c3 := drawWord c2.2
  let c4 := drawWord c3.2
  let c5 := drawWord c4.2
  let i1 := drawWord c5.2
  let i2 := drawWord i1.2
  let i3 := drawWord i2.2
  i3.2.setIo
    { tctl1 := t1.1, tctl2 := t2.1 &&& tctl2Bits s.cfg.tctl2Layout, tmsk1 := 0, tflg1 := f.1, oc1m := m.1,
      oc1d := d.1, pins := p.1, toc1 := c1.1, toc2 := c2.1, toc3 := c3.1, toc4 := c4.1, toc5 := c5.1,
      tic1 := i1.1, tic2 := i2.1, tic3 := i3.1 }

/-- `Reset(vec)` (R500, R463): nothing is stacked, memory is kept, the request performed is no longer asserted (log
entries 12 and 13). -/
def resetSequence (c : ResetCause) (s : State) : State :=
  let s1 := resetIo (resetCcr (freeRegisters s))
  let s2 := ((s1.setRun .running).setIrqInhibit false).setResets (s.resets.filter (fun d => decide (d ≠ c)))
  let v := memRead16 (resetVector c) s2
  v.2.setPc v.1

/-! ### Waiting and stopped -/

/-- `WaitStep()` (R432): the frame is already stacked. -/
def waitStep (s : State) : State :=
  match selectUninhibited s with
  | some src => trapEntry src s.pc false s
  | none => s

/-- `StopStep()` (R384): only XIRQ, masked or not, and an unmasked IRQ end a stop. -/
def stopStep (s : State) : State :=
  if xirqRequested s then
    if s.flag .x then s.setRun .running
    else trapEntry .xirq s.pc true (s.setRun .running)
  else if requested s .irq && !s.flag .i then trapEntry (.maskable .irq) s.pc true (s.setRun .running)
  else s

/-! ### Making the next step run an instruction -/

/-- Hold off every request for one boundary: the inhibit for the maskable sources, XIRQ's line withdrawn. -/
def holdRequests (s : State) : State :=
  if select s = none then s
  else (s.setIrqInhibit true).setLines (s.lines.filter (fun l => decide (l ≠ .xirq)))

/-- The machine runs, no reset is asserted, no request is accepted and the environment does nothing at the next
boundary: the next step fetches at PC (log entry 22). -/
def readyToRun (s : State) : State :=
  holdRequests (((s.setRun .running).setResets []).setScript
    (match s.script with
     | [] => []
     | _ :: t => [] :: t))

end Sys2Proof.Machine
end

