-- ==== Sys2Proof/Machine/Operands.lean ====
section
/-! DEFINITION. Operand decoding (30_encoding.md R96-R102, R113): effective addresses, 8-bit and 16-bit operands,
branch targets; and the shared shapes of the instructions over them, each named for what it does. A meaning runs on
the state after all the instruction's bytes are fetched, so `pc` is `PCnext` (10_state.md R25). -/

namespace Sys2Proof.Machine

/-! ### Operands -/

/-- `EA(m)` (R97-R100, R113): sums wrap modulo 65536, offsets are unsigned. -/
def eaAddr (e : Ea) (s : State) : Word :=
  match e with
  | .dir dd => zext16 dd
  | .ext a => a
  | .indx ff => s.x + zext16 ff
  | .indy ff => s.y + zext16 ff

/-- `Operand8(m)` (R113). -/
def operand8 (m : Src8) (s : State) : Byte × State :=
  match m with
  | .imm v => (v, s)
  | .mem e => memRead (eaAddr e s) s

/-- `Operand16(m)` (R113). -/
def operand16 (m : Src16) (s : State) : Word × State :=
  match m with
  | .imm v => (v, s)
  | .mem e => memRead16 (eaAddr e s) s

/-- `REL` (R101): the offset is signed, from the address after the instruction. -/
def relTarget (pcNext : Word) (rr : Byte) : Word := pcNext + sext16 rr

/-! ### The registers an instruction names -/

/-- An accumulator. -/
inductive Acc where
  | a | b
deriving DecidableEq, Repr

/-- A 16-bit register an instruction can load, store, compare or push. -/
inductive Reg16 where
  | d | x | y | sp
deriving DecidableEq, Repr

def State.acc (s : State) : Acc → Byte
  | .a => s.a
  | .b => s.b

def State.setAcc (s : State) (r : Acc) (v : Byte) : State :=
  match r with
  | .a => s.setA v
  | .b => s.setB v

def State.reg (s : State) : Reg16 → Word
  | .d => s.d
  | .x => s.x
  | .y => s.y
  | .sp => s.sp

def State.setReg (s : State) (r : Reg16) (v : Word) : State :=
  match r with
  | .d => s.setD v
  | .x => s.setX v
  | .y => s.setY v
  | .sp => s.setSp v

/-! ### Flag writes -/

/-- N Z V C from an arithmetic result. -/
def State.setNZVC {w : Nat} (s : State) (f : Arith w) : State := s.setCcr (ccrNZVC s.ccr f)

/-- N and Z from a value, V cleared: the logic, load, store and transfer instructions (R39). -/
def State.setLogic {w : Nat} (s : State) (r : BitVec w) : State :=
  s.setCcr (ccrNZV s.ccr (flagN r) (flagZ r) false)

/-! ### Shared instruction shapes -/

/-- Add a byte and a carry to an accumulator, with H (R130, R133-R136). -/
def addTo (r : Acc) (v : Byte) (cin : Bool) (s : State) : State :=
  let f := addFlags (s.acc r) v cin
  ((s.setAcc r f.r).setFlag .h (addHalf (s.acc r) v cin)).setNZVC f

/-- Subtract a byte and a borrow from an accumulator (R370-R372, R388, R389). -/
def subFrom (r : Acc) (v : Byte) (bin : Bool) (s : State) : State :=
  let f := subFlags (s.acc r) v bin
  (s.setAcc r f.r).setNZVC f

/-- Compare an accumulator with a byte: the flags of the subtraction only (R210, R217, R218). -/
def compare8 (r : Acc) (v : Byte) (s : State) : State := s.setNZVC (subFlags (s.acc r) v false)

/-- Compare a 16-bit register with a word (R222-R224). -/
def compare16 (r : Reg16) (v : Word) (s : State) : State := s.setNZVC (subFlags (s.reg r) v false)

/-- Write a byte to an accumulator with N Z and V = 0 (R138, R257, R292, R339, R410, R412). -/
def putAcc (r : Acc) (v : Byte) (s : State) : State := (s.setAcc r v).setLogic v

/-- Write a word to a 16-bit register with N Z and V = 0 (R294-R297). -/
def putReg (r : Reg16) (v : Word) (s : State) : State := (s.setReg r v).setLogic v

/-- Write an arithmetic result to an accumulator with its N Z V C. -/
def resultAcc (r : Acc) (f : Arith 8) (s : State) : State := (s.setAcc r f.r).setNZVC f

/-- Write an arithmetic result to D with its N Z V C. -/
def resultD (f : Arith 16) (s : State) : State := (s.setD f.r).setNZVC f

/-- Read the byte at a memory operand, write the result back, set N Z V C (20_memory.md R70). `f` is given the byte
and the C flag. -/
def modifyByte (e : Ea) (f : Byte → Bool → Arith 8) (s : State) : State :=
  let a := eaAddr e s
  let m := memRead a s
  let r := f m.1 (s.flag .c)
  (memWrite a r.r m.2).setNZVC r

/-- Read the byte at a memory operand, write the result back, set N Z and V = 0 (R190, R191). -/
def modifyBits (e : Ea) (f : Byte → Byte) (s : State) : State :=
  let a := eaAddr e s
  let m := memRead a s
  (memWrite a (f m.1) m.2).setLogic (f m.1)

/-- Store an accumulator with N Z and V = 0; the destination is not read (R376, R377). -/
def storeAcc (r : Acc) (e : Ea) (s : State) : State :=
  (memWrite (eaAddr e s) (s.acc r) s).setLogic (s.acc r)

/-- Store a 16-bit register with N Z and V = 0 (R378, R385-R387). -/
def storeReg (r : Reg16) (e : Ea) (s : State) : State :=
  (memWrite16 (eaAddr e s) (s.reg r) s).setLogic (s.reg r)

/-- Branch on a condition (41_b_branch.md R160). -/
def branchIf (k : Cond) (rr : Byte) (s : State) : State :=
  if k.holds s.ccr then s.setPc (relTarget s.pc rr) else s

/-- Push the return address and go to a subroutine (R176, R291). -/
def callTo (target : Word) (s : State) : State := (push16 s.pc s).setPc target

end Sys2Proof.Machine
end

