-- ==== Sys2Proof/Machine/AddShift.lean ====
section
/-! DEFINITION. 40_a_add_and_shift.md: add, AND, arithmetic shifts (R130-R146). The second names LSL, LSLA, LSLB and
LSLD (45_j_l.md R298) stand here beside their first names. -/

namespace Sys2Proof.Machine

open Host

/-- ABA (R130): A + B to A, H N Z V C. -/
def execAba (s : State) : Outcome State Fault Refusal := .next (addTo .a s.b false s)

/-- ABX (R131): B, zero-extended, added to X; no flags. -/
def execAbx (s : State) : Outcome State Fault Refusal := .next (s.setX (s.x + zext16 s.b))

/-- ABY (R132): B, zero-extended, added to Y; no flags. -/
def execAby (s : State) : Outcome State Fault Refusal := .next (s.setY (s.y + zext16 s.b))

/-- ADCA (R133). -/
def execAdca (m : Src8) (s : State) : Outcome State Fault Refusal :=
  .next (addTo .a (operand8 m s).1 (s.flag .c) (operand8 m s).2)

/-- ADCB (R134). -/
def execAdcb (m : Src8) (s : State) : Outcome State Fault Refusal :=
  .next (addTo .b (operand8 m s).1 (s.flag .c) (operand8 m s).2)

/-- ADDA (R135). -/
def execAdda (m : Src8) (s : State) : Outcome State Fault Refusal :=
  .next (addTo .a (operand8 m s).1 false (operand8 m s).2)

/-- ADDB (R136). -/
def execAddb (m : Src8) (s : State) : Outcome State Fault Refusal :=
  .next (addTo .b (operand8 m s).1 false (operand8 m s).2)

/-- ADDD (R137): N Z V C of the 16-bit sum, H unchanged. -/
def execAddd (m : Src16) (s : State) : Outcome State Fault Refusal :=
  .next (resultD (addFlags s.d (operand16 m s).1 false) (operand16 m s).2)

/-- ANDA (R138). -/
def execAnda (m : Src8) (s : State) : Outcome State Fault Refusal :=
  .next (putAcc .a (s.a &&& (operand8 m s).1) (operand8 m s).2)

/-- ANDB (R139). -/
def execAndb (m : Src8) (s : State) : Outcome State Fault Refusal :=
  .next (putAcc .b (s.b &&& (operand8 m s).1) (operand8 m s).2)

/-- ASL (R140). -/
def execAsl (ea : Ea) (s : State) : Outcome State Fault Refusal := .next (modifyByte ea (fun m _ => aslFlags m) s)

/-- ASLA (R141). -/
def execAsla (s : State) : Outcome State Fault Refusal := .next (resultAcc .a (aslFlags s.a) s)

/-- ASLB (R142). -/
def execAslb (s : State) : Outcome State Fault Refusal := .next (resultAcc .b (aslFlags s.b) s)

/-- ASLD (R143). -/
def execAsld (s : State) : Outcome State Fault Refusal := .next (resultD (aslFlags s.d) s)

/-- ASR (R144). -/
def execAsr (ea : Ea) (s : State) : Outcome State Fault Refusal := .next (modifyByte ea (fun m _ => asrFlags m) s)

/-- ASRA (R145). -/
def execAsra (s : State) : Outcome State Fault Refusal := .next (resultAcc .a (asrFlags s.a) s)

/-- ASRB (R146). -/
def execAsrb (s : State) : Outcome State Fault Refusal := .next (resultAcc .b (asrFlags s.b) s)

/-- LSL, second name of ASL (R298). -/
def execLsl (ea : Ea) (s : State) : Outcome State Fault Refusal := .next (modifyByte ea (fun m _ => aslFlags m) s)

/-- LSLA, second name of ASLA (R298). -/
def execLsla (s : State) : Outcome State Fault Refusal := .next (resultAcc .a (aslFlags s.a) s)

/-- LSLB, second name of ASLB (R298). -/
def execLslb (s : State) : Outcome State Fault Refusal := .next (resultAcc .b (aslFlags s.b) s)

/-- LSLD, second name of ASLD (R298). -/
def execLsld (s : State) : Outcome State Fault Refusal := .next (resultD (aslFlags s.d) s)

end Sys2Proof.Machine
end

