-- ==== Sys2Proof/Machine/BitManip.lean ====
section
/-! DEFINITION. 42_bit_manipulation.md: BCLR, BSET, BRCLR, BRSET, BITA, BITB (R190-R196). -/

namespace Sys2Proof.Machine

open Host

/-- BCLR (R190): always a read and a write, whatever the mask. -/
def execBclr (ea : Ea) (mm : Byte) (s : State) : Outcome State Fault Refusal :=
  .next (modifyBits ea (fun m => m &&& ~~~ mm) s)

/-- BSET (R191): always a read and a write, whatever the mask. -/
def execBset (ea : Ea) (mm : Byte) (s : State) : Outcome State Fault Refusal :=
  .next (modifyBits ea (fun m => m ||| mm) s)

/-- BRCLR (R192): branch when every bit the mask selects is 0. -/
def execBrclr (ea : Ea) (mm rr : Byte) (s : State) : Outcome State Fault Refusal :=
  let m := memRead (eaAddr ea s) s
  .next (if m.1 &&& mm = 0 then m.2.setPc (relTarget s.pc rr) else m.2)

/-- BRSET (R193): branch when every bit the mask selects is 1. -/
def execBrset (ea : Ea) (mm rr : Byte) (s : State) : Outcome State Fault Refusal :=
  let m := memRead (eaAddr ea s) s
  .next (if ~~~ m.1 &&& mm = 0 then m.2.setPc (relTarget s.pc rr) else m.2)

/-- BITA (R194): flags only. -/
def execBita (m : Src8) (s : State) : Outcome State Fault Refusal :=
  .next ((operand8 m s).2.setLogic (s.a &&& (operand8 m s).1))

/-- BITB (R195): flags only. -/
def execBitb (m : Src8) (s : State) : Outcome State Fault Refusal :=
  .next ((operand8 m s).2.setLogic (s.b &&& (operand8 m s).1))

end Sys2Proof.Machine
end

