-- ==== Sys2Proof/Machine/Branch.lean ====
section
/-! DEFINITION. 41_b_branch.md: branches (R160-R179). -/

namespace Sys2Proof.Machine

open Host

/-- BCC (R161): carry clear. -/
def execBcc (rr : Byte) (s : State) : Outcome State Fault Refusal := .next (branchIf .cc rr s)

/-- BCS (R162): carry set. -/
def execBcs (rr : Byte) (s : State) : Outcome State Fault Refusal := .next (branchIf .cs rr s)

/-- BEQ (R163): Z = 1. -/
def execBeq (rr : Byte) (s : State) : Outcome State Fault Refusal := .next (branchIf .eq rr s)

/-- BGE (R164): N xor V = 0. -/
def execBge (rr : Byte) (s : State) : Outcome State Fault Refusal := .next (branchIf .ge rr s)

/-- BGT (R165): Z or (N xor V) = 0. -/
def execBgt (rr : Byte) (s : State) : Outcome State Fault Refusal := .next (branchIf .gt rr s)

/-- BHI (R166): C or Z = 0. -/
def execBhi (rr : Byte) (s : State) : Outcome State Fault Refusal := .next (branchIf .hi rr s)

/-- BLE (R167): Z or (N xor V) = 1. -/
def execBle (rr : Byte) (s : State) : Outcome State Fault Refusal := .next (branchIf .le rr s)

/-- BLS (R168): C or Z = 1. -/
def execBls (rr : Byte) (s : State) : Outcome State Fault Refusal := .next (branchIf .ls rr s)

/-- BLT (R169): N xor V = 1. -/
def execBlt (rr : Byte) (s : State) : Outcome State Fault Refusal := .next (branchIf .lt rr s)

/-- BMI (R170): N = 1. -/
def execBmi (rr : Byte) (s : State) : Outcome State Fault Refusal := .next (branchIf .mi rr s)

/-- BNE (R171): Z = 0. -/
def execBne (rr : Byte) (s : State) : Outcome State Fault Refusal := .next (branchIf .ne rr s)

/-- BPL (R172): N = 0. -/
def execBpl (rr : Byte) (s : State) : Outcome State Fault Refusal := .next (branchIf .pl rr s)

/-- BRA (R173): always. -/
def execBra (rr : Byte) (s : State) : Outcome State Fault Refusal := .next (branchIf .always rr s)

/-- BRN (R175): never. -/
def execBrn (rr : Byte) (s : State) : Outcome State Fault Refusal := .next (branchIf .never rr s)

/-- BVC (R177): V = 0. -/
def execBvc (rr : Byte) (s : State) : Outcome State Fault Refusal := .next (branchIf .vc rr s)

/-- BVS (R178): V = 1. -/
def execBvs (rr : Byte) (s : State) : Outcome State Fault Refusal := .next (branchIf .vs rr s)

/-- BHS, second name of BCC (30_encoding.md R109). -/
def execBhs (rr : Byte) (s : State) : Outcome State Fault Refusal := .next (branchIf .cc rr s)

/-- BLO, second name of BCS (30_encoding.md R109). -/
def execBlo (rr : Byte) (s : State) : Outcome State Fault Refusal := .next (branchIf .cs rr s)

/-- BSR (R176): push the address after the instruction, then branch. -/
def execBsr (rr : Byte) (s : State) : Outcome State Fault Refusal := .next (callTo (relTarget s.pc rr) s)

end Sys2Proof.Machine
end

