-- ==== Sys2Proof/Machine/CompareClear.lean ====
section
/-! DEFINITION. 43_c_compare_clear.md: compare, clear, complement (R210-R224). -/

namespace Sys2Proof.Machine

open Host

/-- CBA (R210). -/
def execCba (s : State) : Outcome State Fault Refusal := .next (compare8 .a s.b s)

/-- CLC (R211). -/
def execClc (s : State) : Outcome State Fault Refusal := .next (s.setFlag .c false)

/-- CLI (R212): a CLI that changes I from 1 to 0 sets the one-instruction inhibit. -/
def execCli (s : State) : Outcome State Fault Refusal :=
  .next ((s.setIrqInhibit (s.irqInhibit || s.flag .i)).setFlag .i false)

/-- CLR (R213): the location is read before it is written. -/
def execClr (ea : Ea) (s : State) : Outcome State Fault Refusal := .next (modifyByte ea (fun _ _ => clrFlags) s)

/-- CLRA (R214). -/
def execClra (s : State) : Outcome State Fault Refusal := .next (resultAcc .a clrFlags s)

/-- CLRB (R215). -/
def execClrb (s : State) : Outcome State Fault Refusal := .next (resultAcc .b clrFlags s)

/-- CLV (R216). -/
def execClv (s : State) : Outcome State Fault Refusal := .next (s.setFlag .v false)

/-- CMPA (R217). -/
def execCmpa (m : Src8) (s : State) : Outcome State Fault Refusal :=
  .next (compare8 .a (operand8 m s).1 (operand8 m s).2)

/-- CMPB (R218). -/
def execCmpb (m : Src8) (s : State) : Outcome State Fault Refusal :=
  .next (compare8 .b (operand8 m s).1 (operand8 m s).2)

/-- COM (R219). -/
def execCom (ea : Ea) (s : State) : Outcome State Fault Refusal := .next (modifyByte ea (fun m _ => comFlags m) s)

/-- COMA (R220). -/
def execComa (s : State) : Outcome State Fault Refusal := .next (resultAcc .a (comFlags s.a) s)

/-- COMB (R221). -/
def execComb (s : State) : Outcome State Fault Refusal := .next (resultAcc .b (comFlags s.b) s)

/-- CPD (R222). -/
def execCpd (m : Src16) (s : State) : Outcome State Fault Refusal :=
  .next (compare16 .d (operand16 m s).1 (operand16 m s).2)

/-- CPX (R223). -/
def execCpx (m : Src16) (s : State) : Outcome State Fault Refusal :=
  .next (compare16 .x (operand16 m s).1 (operand16 m s).2)

/-- CPY (R224). -/
def execCpy (m : Src16) (s : State) : Outcome State Fault Refusal :=
  .next (compare16 .y (operand16 m s).1 (operand16 m s).2)

end Sys2Proof.Machine
end

