-- ==== Sys2Proof/Machine/DecimalDivide.lean ====
section
/-! DEFINITION. 44_d_e_f_i.md: decimal adjust, decrement, exclusive OR, divide, increment (R250-R270). -/

namespace Sys2Proof.Machine

open Host

/-- DAA (R250): A corrected, N Z C written, H unchanged, V a free bit (log entry 26). -/
def execDaa (s : State) : Outcome State Fault Refusal :=
  let v := drawBit s
  let r := daaResult s.a (s.flag .h) (s.flag .c)
  .next ((v.2.setA r).setNZVC
    ({ r := r, n := flagN r, z := flagZ r, v := v.1, c := daaHigh s.a (s.flag .c) } : Arith 8))

/-- DEC (R251): C unchanged. -/
def execDec (ea : Ea) (s : State) : Outcome State Fault Refusal := .next (modifyByte ea decFlags s)

/-- DECA (R252). -/
def execDeca (s : State) : Outcome State Fault Refusal := .next (resultAcc .a (decFlags s.a (s.flag .c)) s)

/-- DECB (R253). -/
def execDecb (s : State) : Outcome State Fault Refusal := .next (resultAcc .b (decFlags s.b (s.flag .c)) s)

/-- DES (R254): no flags. -/
def execDes (s : State) : Outcome State Fault Refusal := .next (s.setSp (s.sp - 1))

/-- DEX (R255): only Z. -/
def execDex (s : State) : Outcome State Fault Refusal := .next ((s.setX (s.x - 1)).setFlag .z (flagZ (s.x - 1)))

/-- DEY (R256): only Z. -/
def execDey (s : State) : Outcome State Fault Refusal := .next ((s.setY (s.y - 1)).setFlag .z (flagZ (s.y - 1)))

/-- EORA (R257). -/
def execEora (m : Src8) (s : State) : Outcome State Fault Refusal :=
  .next (putAcc .a (s.a ^^^ (operand8 m s).1) (operand8 m s).2)

/-- EORB (R258). -/
def execEorb (m : Src8) (s : State) : Outcome State Fault Refusal :=
  .next (putAcc .b (s.b ^^^ (operand8 m s).1) (operand8 m s).2)

/-- The Z, V and C a division leaves; N and H are unchanged (R262, R264). -/
def divideFlags (z v c : Bool) (s : State) : State := ((s.setFlag .z z).setFlag .v v).setFlag .c c

/-- A division that has no quotient: X is `$FFFF`, D is a free word (log entry 26), no trap (R262, R264). -/
def divideError (v c : Bool) (s : State) : State :=
  let d := drawWord s
  divideFlags false v c ((d.2.setX 0xFFFF).setD d.1)

/-- FDIV (R264): the 16-bit fraction D / X. -/
def execFdiv (s : State) : Outcome State Fault Refusal :=
  let n := s.d.toNat * 65536
  if s.x = 0 then
    .next (divideError true true s)
  else if s.x ≤ s.d then
    .next (divideError true false s)
  else
    let q := BitVec.ofNat 16 (n / s.x.toNat)
    .next (divideFlags (flagZ q) false false ((s.setX q).setD (BitVec.ofNat 16 (n % s.x.toNat))))

/-- IDIV (R262): unsigned quotient to X, remainder to D. -/
def execIdiv (s : State) : Outcome State Fault Refusal :=
  if s.x = 0 then
    .next (divideError false true s)
  else
    let q := BitVec.ofNat 16 (s.d.toNat / s.x.toNat)
    .next (divideFlags (flagZ q) false false ((s.setX q).setD (BitVec.ofNat 16 (s.d.toNat % s.x.toNat))))

/-- INC (R265): C unchanged. -/
def execInc (ea : Ea) (s : State) : Outcome State Fault Refusal := .next (modifyByte ea incFlags s)

/-- INCA (R266). -/
def execInca (s : State) : Outcome State Fault Refusal := .next (resultAcc .a (incFlags s.a (s.flag .c)) s)

/-- INCB (R267). -/
def execIncb (s : State) : Outcome State Fault Refusal := .next (resultAcc .b (incFlags s.b (s.flag .c)) s)

/-- INS (R268): no flags. -/
def execIns (s : State) : Outcome State Fault Refusal := .next (s.setSp (s.sp + 1))

/-- INX (R269): only Z. -/
def execInx (s : State) : Outcome State Fault Refusal := .next ((s.setX (s.x + 1)).setFlag .z (flagZ (s.x + 1)))

/-- INY (R270): only Z. -/
def execIny (s : State) : Outcome State Fault Refusal := .next ((s.setY (s.y + 1)).setFlag .z (flagZ (s.y + 1)))

end Sys2Proof.Machine
end

