-- ==== Sys2Proof/Machine/JumpLoad.lean ====
section
/-! DEFINITION. 45_j_l.md: jumps, loads, logical shifts right (R290-R302). -/

namespace Sys2Proof.Machine

open Host

/-- JMP (R290): to the effective address itself. -/
def execJmp (ea : Ea) (s : State) : Outcome State Fault Refusal := .next (s.setPc (eaAddr ea s))

/-- JSR (R291): the address is computed before the push. -/
def execJsr (ea : Ea) (s : State) : Outcome State Fault Refusal := .next (callTo (eaAddr ea s) s)

/-- LDAA (R292). -/
def execLdaa (m : Src8) (s : State) : Outcome State Fault Refusal :=
  .next (putAcc .a (operand8 m s).1 (operand8 m s).2)

/-- LDAB (R293). -/
def execLdab (m : Src8) (s : State) : Outcome State Fault Refusal :=
  .next (putAcc .b (operand8 m s).1 (operand8 m s).2)

/-- LDD (R294). -/
def execLdd (m : Src16) (s : State) : Outcome State Fault Refusal :=
  .next (putReg .d (operand16 m s).1 (operand16 m s).2)

/-- LDS (R295). -/
def execLds (m : Src16) (s : State) : Outcome State Fault Refusal :=
  .next (putReg .sp (operand16 m s).1 (operand16 m s).2)

/-- LDX (R296): an IND,X address uses the old X. -/
def execLdx (m : Src16) (s : State) : Outcome State Fault Refusal :=
  .next (putReg .x (operand16 m s).1 (operand16 m s).2)

/-- LDY (R297): an IND,Y address uses the old Y. -/
def execLdy (m : Src16) (s : State) : Outcome State Fault Refusal :=
  .next (putReg .y (operand16 m s).1 (operand16 m s).2)

/-- LSR (R299). -/
def execLsr (ea : Ea) (s : State) : Outcome State Fault Refusal := .next (modifyByte ea (fun m _ => lsrFlags m) s)

/-- LSRA (R300). -/
def execLsra (s : State) : Outcome State Fault Refusal := .next (resultAcc .a (lsrFlags s.a) s)

/-- LSRB (R301). -/
def execLsrb (s : State) : Outcome State Fault Refusal := .next (resultAcc .b (lsrFlags s.b) s)

/-- LSRD (R302). -/
def execLsrd (s : State) : Outcome State Fault Refusal := .next (resultD (lsrFlags s.d) s)

end Sys2Proof.Machine
end

