-- ==== Sys2Proof/Machine/MulStack.lean ====
section
/-! DEFINITION. 46_m_n_o_p.md: multiply, negate, no operation, OR, push, pull (R330-R349). -/

namespace Sys2Proof.Machine

open Host

/-- MUL (R330): the unsigned product to D; only C is written, with bit 7 of the product. -/
def execMul (s : State) : Outcome State Fault Refusal :=
  let p := zext16 s.a * zext16 s.b
  .next ((s.setD p).setFlag .c (p.getLsbD 7))

/-- NEG (R331). -/
def execNeg (ea : Ea) (s : State) : Outcome State Fault Refusal := .next (modifyByte ea (fun m _ => negFlags m) s)

/-- NEGA (R332). -/
def execNega (s : State) : Outcome State Fault Refusal := .next (resultAcc .a (negFlags s.a) s)

/-- NEGB (R333). -/
def execNegb (s : State) : Outcome State Fault Refusal := .next (resultAcc .b (negFlags s.b) s)

/-- NOP (R338). -/
def execNop (s : State) : Outcome State Fault Refusal := .next s

/-- ORAA (R339). -/
def execOraa (m : Src8) (s : State) : Outcome State Fault Refusal :=
  .next (putAcc .a (s.a ||| (operand8 m s).1) (operand8 m s).2)

/-- ORAB (R340). -/
def execOrab (m : Src8) (s : State) : Outcome State Fault Refusal :=
  .next (putAcc .b (s.b ||| (operand8 m s).1) (operand8 m s).2)

/-- PSHA (R341). -/
def execPsha (s : State) : Outcome State Fault Refusal := .next (push8 s.a s)

/-- PSHB (R342). -/
def execPshb (s : State) : Outcome State Fault Refusal := .next (push8 s.b s)

/-- PSHX (R343). -/
def execPshx (s : State) : Outcome State Fault Refusal := .next (push16 s.x s)

/-- PSHY (R344). -/
def execPshy (s : State) : Outcome State Fault Refusal := .next (push16 s.y s)

/-- PULA (R345): no flags. -/
def execPula (s : State) : Outcome State Fault Refusal := .next (pullA s)

/-- PULB (R346): no flags. -/
def execPulb (s : State) : Outcome State Fault Refusal := .next (pullB s)

/-- PULX (R347): no flags. -/
def execPulx (s : State) : Outcome State Fault Refusal := .next (pullX s)

/-- PULY (R348): no flags. -/
def execPuly (s : State) : Outcome State Fault Refusal := .next (pullY s)

end Sys2Proof.Machine
end

