-- ==== Sys2Proof/Machine/RotateStore.lean ====
section
/-! DEFINITION. 47_r_s.md: rotate, return, subtract, store, set, STOP, SWI (R360-R391). -/

namespace Sys2Proof.Machine

open Host

/-- ROL (R360). -/
def execRol (ea : Ea) (s : State) : Outcome State Fault Refusal := .next (modifyByte ea rolFlags s)

/-- ROLA (R361). -/
def execRola (s : State) : Outcome State Fault Refusal := .next (resultAcc .a (rolFlags s.a (s.flag .c)) s)

/-- ROLB (R362). -/
def execRolb (s : State) : Outcome State Fault Refusal := .next (resultAcc .b (rolFlags s.b (s.flag .c)) s)

/-- ROR (R363). -/
def execRor (ea : Ea) (s : State) : Outcome State Fault Refusal := .next (modifyByte ea rorFlags s)

/-- RORA (R364). -/
def execRora (s : State) : Outcome State Fault Refusal := .next (resultAcc .a (rorFlags s.a (s.flag .c)) s)

/-- RORB (R365). -/
def execRorb (s : State) : Outcome State Fault Refusal := .next (resultAcc .b (rorFlags s.b (s.flag .c)) s)

/-- RTI (R366, 60_exceptions.md R457): no inhibit is set. -/
def execRti (s : State) : Outcome State Fault Refusal := .next (returnFromInterrupt s)

/-- RTS (R367). -/
def execRts (s : State) : Outcome State Fault Refusal := .next (pullPc s)

/-- SBA (R370). -/
def execSba (s : State) : Outcome State Fault Refusal := .next (subFrom .a s.b false s)

/-- SBCA (R371). -/
def execSbca (m : Src8) (s : State) : Outcome State Fault Refusal :=
  .next (subFrom .a (operand8 m s).1 (s.flag .c) (operand8 m s).2)

/-- SBCB (R372). -/
def execSbcb (m : Src8) (s : State) : Outcome State Fault Refusal :=
  .next (subFrom .b (operand8 m s).1 (s.flag .c) (operand8 m s).2)

/-- SEC (R373). -/
def execSec (s : State) : Outcome State Fault Refusal := .next (s.setFlag .c true)

/-- SEI (R374). -/
def execSei (s : State) : Outcome State Fault Refusal := .next (s.setFlag .i true)

/-- SEV (R375). -/
def execSev (s : State) : Outcome State Fault Refusal := .next (s.setFlag .v true)

/-- STAA (R376). -/
def execStaa (ea : Ea) (s : State) : Outcome State Fault Refusal := .next (storeAcc .a ea s)

/-- STAB (R377). -/
def execStab (ea : Ea) (s : State) : Outcome State Fault Refusal := .next (storeAcc .b ea s)

/-- STD (R378). -/
def execStd (ea : Ea) (s : State) : Outcome State Fault Refusal := .next (storeReg .d ea s)

/-- STOP (R384): a no-op while S is 1, otherwise the clocks stop and nothing is stacked. -/
def execStop (s : State) : Outcome State Fault Refusal :=
  .next (if s.flag .s then s else s.setRun .stopped)

/-- STS (R385): the value stored is SP itself. -/
def execSts (ea : Ea) (s : State) : Outcome State Fault Refusal := .next (storeReg .sp ea s)

/-- STX (R386). -/
def execStx (ea : Ea) (s : State) : Outcome State Fault Refusal := .next (storeReg .x ea s)

/-- STY (R387). -/
def execSty (ea : Ea) (s : State) : Outcome State Fault Refusal := .next (storeReg .y ea s)

/-- SUBA (R388). -/
def execSuba (m : Src8) (s : State) : Outcome State Fault Refusal :=
  .next (subFrom .a (operand8 m s).1 false (operand8 m s).2)

/-- SUBB (R389). -/
def execSubb (m : Src8) (s : State) : Outcome State Fault Refusal :=
  .next (subFrom .b (operand8 m s).1 false (operand8 m s).2)

/-- SUBD (R390). -/
def execSubd (m : Src16) (s : State) : Outcome State Fault Refusal :=
  .next (resultD (subFlags s.d (operand16 m s).1 false) (operand16 m s).2)

/-- SWI (R391, 60_exceptions.md R461): always taken, whatever the masks. -/
def execSwi (s : State) : Outcome State Fault Refusal := .next (trapEntry .swi s.pc true s)

end Sys2Proof.Machine
end

