-- ==== Sys2Proof/Machine/Transfer.lean ====
section
/-! DEFINITION. 48_t_w_x.md: transfer, test, TEST, WAI, exchange (R410-R434). -/

namespace Sys2Proof.Machine

open Host

/-- TAB (R410). -/
def execTab (s : State) : Outcome State Fault Refusal := .next (putAcc .b s.a s)

/-- TAP (R411): X can be cleared but not set; clearing I sets the one-instruction inhibit. -/
def execTap (s : State) : Outcome State Fault Refusal :=
  let t := s.setCcr (ccrLoad s.ccr s.a)
  .next (t.setIrqInhibit (s.irqInhibit || (s.flag .i && !t.flag .i)))

/-- TBA (R412). -/
def execTba (s : State) : Outcome State Fault Refusal := .next (putAcc .a s.b s)

/-- TEST (R420): in special test mode the machine hangs until reset; in the normal modes `$00` is an illegal opcode,
one byte long. -/
def execTest (s : State) : Outcome State Fault Refusal :=
  match s.cfg.mode with
  | .specialTest => .next (s.setRun .hung)
  | .normal => .next (illegalOpcode (s.pc - 1) s)

/-- TPA (R413). -/
def execTpa (s : State) : Outcome State Fault Refusal := .next (s.setA s.ccr)

/-- TST (R414): memory is read and not written. -/
def execTst (ea : Ea) (s : State) : Outcome State Fault Refusal :=
  let m := memRead (eaAddr ea s) s
  .next (m.2.setNZVC (tstFlags m.1))

/-- TSTA (R415). -/
def execTsta (s : State) : Outcome State Fault Refusal := .next (s.setNZVC (tstFlags s.a))

/-- TSTB (R416). -/
def execTstb (s : State) : Outcome State Fault Refusal := .next (s.setNZVC (tstFlags s.b))

/-- TSX (R417). -/
def execTsx (s : State) : Outcome State Fault Refusal := .next (s.setX (s.sp + 1))

/-- TSY (R418). -/
def execTsy (s : State) : Outcome State Fault Refusal := .next (s.setY (s.sp + 1))

/-- TXS (R419). -/
def execTxs (s : State) : Outcome State Fault Refusal := .next (s.setSp (s.x - 1))

/-- TYS (R421). -/
def execTys (s : State) : Outcome State Fault Refusal := .next (s.setSp (s.y - 1))

/-- WAI (R432): the frame is stacked now, then the machine waits; CCR is unchanged. -/
def execWai (s : State) : Outcome State Fault Refusal := .next ((pushFrame s.pc s).setRun .waiting)

/-- XGDX (R433). -/
def execXgdx (s : State) : Outcome State Fault Refusal := .next ((s.setX s.d).setD s.x)

/-- XGDY (R434). -/
def execXgdy (s : State) : Outcome State Fault Refusal := .next ((s.setY s.d).setD s.y)

end Sys2Proof.Machine
end

