-- ==== Sys2Proof/WellFormed.lean ====
section
/-! DEFINITION. The operand forms the opcode tables give (30_encoding.md R96, R103, R105, R106): the syntax can
write two forms no row has, and these checks refuse them. -/

namespace Sys2Proof

/-- The operand is not DIR. -/
def Ea.notDir : Ea → Bool
  | .dir _ => false
  | _ => true

/-- The operand is not EXT. -/
def Ea.notExt : Ea → Bool
  | .ext _ => false
  | _ => true

/-- Whether some row of the table has this form: the read-modify-write instructions, TST and JMP have no DIR
form (40_a_add_and_shift.md R140, 45_j_l.md R290 and the like), the mask instructions have no EXT form
(42_bit_manipulation.md R190-R193). -/
def Instr.wf : Instr → Bool
  | .asl ea => ea.notDir
  | .asr ea => ea.notDir
  | .clr ea => ea.notDir
  | .com ea => ea.notDir
  | .dec ea => ea.notDir
  | .inc ea => ea.notDir
  | .lsl ea => ea.notDir
  | .lsr ea => ea.notDir
  | .neg ea => ea.notDir
  | .rol ea => ea.notDir
  | .ror ea => ea.notDir
  | .tst ea => ea.notDir
  | .jmp ea => ea.notDir
  | .bset ea _ => ea.notExt
  | .bclr ea _ => ea.notExt
  | .brset ea _ _ => ea.notExt
  | .brclr ea _ _ => ea.notExt
  | _ => true

/-- The instruction has a form the tables give. -/
abbrev Instr.WellFormed (i : Instr) : Prop := i.wf = true

end Sys2Proof
end

