-- ==== Sys2Proof/Decode.lean ====
section
/-! DEFINITION. The decoder, total on any bytes, and after it the encoder, both written from the opcode maps of
30_encoding.md: page 0 (R103), page `$18` (R105), pages `$1A` and `$CD` (R106), formats R91, length R92. -/

namespace Sys2Proof

open Sys2Proof.Machine

/-- The memory-operand modes (R97-R100). -/
inductive EaMode where
  | dir | ext | indx | indy
deriving DecidableEq, Repr

/-- What a (page, opcode) pair selects (R92): the instruction's format of R91 and how it is built from its
operands. -/
inductive Row where
  | inh (i : Instr)
  | imm8 (f : Byte → Instr)
  | imm16 (f : Word → Instr)
  | rel (f : Byte → Instr)
  | ea (mode : EaMode) (f : Ea → Instr)
  | eaMask (mode : EaMode) (f : Ea → Byte → Instr)
  | eaMaskRel (mode : EaMode) (f : Ea → Byte → Byte → Instr)

/-- The opcode pages (R93). -/
inductive Page where
  | page0 | page18 | page1A | pageCD
deriving DecidableEq, Repr

/-- Why a byte sequence is not an instruction: its (page, opcode) pair has no row (R107), or the list of bytes
ends before the instruction does. -/
inductive DecodeError where
  | illegalOpcode (page : Page) (opcode : Byte)
  | truncated
deriving DecidableEq, Repr

/-- The page a first byte selects when it is a prebyte (R92, R93). -/
def prebytePage (b : Byte) : Option Page :=
  match b.toNat with
  | 0x18 => some .page18
  | 0x1A => some .page1A
  | 0xCD => some .pageCD
  | _ => none

/-- Page 0, no prebyte (R103): 233 opcodes. -/
def page0Row : Nat → Option Row
  | 0x00 => some (.inh .test)
  | 0x01 => some (.inh .nop)
  | 0x02 => some (.inh .idiv)
  | 0x03 => some (.inh .fdiv)
  | 0x04 => some (.inh .lsrd)
  | 0x05 => some (.inh .asld)
  | 0x06 => some (.inh .tap)
  | 0x07 => some (.inh .tpa)
  | 0x08 => some (.inh .inx)
  | 0x09 => some (.inh .dex)
  | 0x0A => some (.inh .clv)
  | 0x0B => some (.inh .sev)
  | 0x0C => some (.inh .clc)
  | 0x0D => some (.inh .sec)
  | 0x0E => some (.inh .cli)
  | 0x0F => some (.inh .sei)
  | 0x10 => some (.inh .sba)
  | 0x11 => some (.inh .cba)
  | 0x12 => some (.eaMaskRel .dir .brset)
  | 0x13 => some (.eaMaskRel .dir .brclr)
  | 0x14 => some (.eaMask .dir .bset)
  | 0x15 => some (.eaMask .dir .bclr)
  | 0x16 => some (.inh .tab)
  | 0x17 => some (.inh .tba)
  | 0x19 => some (.inh .daa)
  | 0x1B => some (.inh .aba)
  | 0x1C => some (.eaMask .indx .bset)
  | 0x1D => some (.eaMask .indx .bclr)
  | 0x1E => some (.eaMaskRel .indx .brset)
  | 0x1F => some (.eaMaskRel .indx .brclr)
  | 0x20 => some (.rel .bra)
  | 0x21 => some (.rel .brn)
  | 0x22 => some (.rel .bhi)
  | 0x23 => some (.rel .bls)
  | 0x24 => some (.rel .bcc)
  | 0x25 => some (.rel .bcs)
  | 0x26 => some (.rel .bne)
  | 0x27 => some (.rel .beq)
  | 0x28 => some (.rel .bvc)
  | 0x29 => some (.rel .bvs)
  | 0x2A => some (.rel .bpl)
  | 0x2B => some (.rel .bmi)
  | 0x2C => some (.rel .bge)
  | 0x2D => some (.rel .blt)
  | 0x2E => some (.rel .bgt)
  | 0x2F => some (.rel .ble)
  | 0x30 => some (.inh .tsx)
  | 0x31 => some (.inh .ins)
  | 0x32 => some (.inh .pula)
  | 0x33 => some (.inh .pulb)
  | 0x34 => some (.inh .des)
  | 0x35 => some (.inh .txs)
  | 0x36 => some (.inh .psha)
  | 0x37 => some (.inh .pshb)
  | 0x38 => some (.inh .pulx)
  | 0x39 => some (.inh .rts)
  | 0x3A => some (.inh .abx)
  | 0x3B => some (.inh .rti)
  | 0x3C => some (.inh .pshx)
  | 0x3D => some (.inh .mul)
  | 0x3E => some (.inh .wai)
  | 0x3F => some (.inh .swi)
  | 0x40 => some (.inh .nega)
  | 0x43 => some (.inh .coma)
  | 0x44 => some (.inh .lsra)
  | 0x46 => some (.inh .rora)
  | 0x47 => some (.inh .asra)
  | 0x48 => some (.inh .asla)
  | 0x49 => some (.inh .rola)
  | 0x4A => some (.inh .deca)
  | 0x4C => some (.inh .inca)
  | 0x4D => some (.inh .tsta)
  | 0x4F => some (.inh .clra)
  | 0x50 => some (.inh .negb)
  | 0x53 => some (.inh .comb)
  | 0x54 => some (.inh .lsrb)
  | 0x56 => some (.inh .rorb)
  | 0x57 => some (.inh .asrb)
  | 0x58 => some (.inh .aslb)
  | 0x59 => some (.inh .rolb)
  | 0x5A => some (.inh .decb)
  | 0x5C => some (.inh .incb)
  | 0x5D => some (.inh .tstb)
  | 0x5F => some (.inh .clrb)
  | 0x60 => some (.ea .indx .neg)
  | 0x63 => some (.ea .indx .com)
  | 0x64 => some (.ea .indx .lsr)
  | 0x66 => some (.ea .indx .ror)
  | 0x67 => some (.ea .indx .asr)
  | 0x68 => some (.ea .indx .asl)
  | 0x69 => some (.ea .indx .rol)
  | 0x6A => some (.ea .indx .dec)
  | 0x6C => some (.ea .indx .inc)
  | 0x6D => some (.ea .indx .tst)
  | 0x6E => some (.ea .indx .jmp)
  | 0x6F => some (.ea .indx .clr)
  | 0x70 => some (.ea .ext .neg)
  | 0x73 => some (.ea .ext .com)
  | 0x74 => some (.ea .ext .lsr)
  | 0x76 => some (.ea .ext .ror)
  | 0x77 => some (.ea .ext .asr)
  | 0x78 => some (.ea .ext .asl)
  | 0x79 => some (.ea .ext .rol)
  | 0x7A => some (.ea .ext .dec)
  | 0x7C => some (.ea .ext .inc)
  | 0x7D => some (.ea .ext .tst)
  | 0x7E => some (.ea .ext .jmp)
  | 0x7F => some (.ea .ext .clr)
  | 0x80 => some (.imm8 fun v => .suba (.imm v))
  | 0x81 => some (.imm8 fun v => .cmpa (.imm v))
  | 0x82 => some (.imm8 fun v => .sbca (.imm v))
  | 0x83 => some (.imm16 fun v => .subd (.imm v))
  | 0x84 => some (.imm8 fun v => .anda (.imm v))
  | 0x85 => some (.imm8 fun v => .bita (.imm v))
  | 0x86 => some (.imm8 fun v => .ldaa (.imm v))
  | 0x88 => some (.imm8 fun v => .eora (.imm v))
  | 0x89 => some (.imm8 fun v => .adca (.imm v))
  | 0x8A => some (.imm8 fun v => .oraa (.imm v))
  | 0x8B => some (.imm8 fun v => .adda (.imm v))
  | 0x8C => some (.imm16 fun v => .cpx (.imm v))
  | 0x8D => some (.rel .bsr)
  | 0x8E => some (.imm16 fun v => .lds (.imm v))
  | 0x8F => some (.inh .xgdx)
  | 0x90 => some (.ea .dir fun e => .suba (.mem e))
  | 0x91 => some (.ea .dir fun e => .cmpa (.mem e))
  | 0x92 => some (.ea .dir fun e => .sbca (.mem e))
  | 0x93 => some (.ea .dir fun e => .subd (.mem e))
  | 0x94 => some (.ea .dir fun e => .anda (.mem e))
  | 0x95 => some (.ea .dir fun e => .bita (.mem e))
  | 0x96 => some (.ea .dir fun e => .ldaa (.mem e))
  | 0x97 => some (.ea .dir .staa)
  | 0x98 => some (.ea .dir fun e => .eora (.mem e))
  | 0x99 => some (.ea .dir fun e => .adca (.mem e))
  | 0x9A => some (.ea .dir fun e => .oraa (.mem e))
  | 0x9B => some (.ea .dir fun e => .adda (.mem e))
  | 0x9C => some (.ea .dir fun e => .cpx (.mem e))
  | 0x9D => some (.ea .dir .jsr)
  | 0x9E => some (.ea .dir fun e => .lds (.mem e))
  | 0x9F => some (.ea .dir .sts)
  | 0xA0 => some (.ea .indx fun e => .suba (.mem e))
  | 0xA1 => some (.ea .indx fun e => .cmpa (.mem e))
  | 0xA2 => some (.ea .indx fun e => .sbca (.mem e))
  | 0xA3 => some (.ea .indx fun e => .subd (.mem e))
  | 0xA4 => some (.ea .indx fun e => .anda (.mem e))
  | 0xA5 => some (.ea .indx fun e => .bita (.mem e))
  | 0xA6 => some (.ea .indx fun e => .ldaa (.mem e))
  | 0xA7 => some (.ea .indx .staa)
  | 0xA8 => some (.ea .indx fun e => .eora (.mem e))
  | 0xA9 => some (.ea .indx fun e => .adca (.mem e))
  | 0xAA => some (.ea .indx fun e => .oraa (.mem e))
  | 0xAB => some (.ea .indx fun e => .adda (.mem e))
  | 0xAC => some (.ea .indx fun e => .cpx (.mem e))
  | 0xAD => some (.ea .indx .jsr)
  | 0xAE => some (.ea .indx fun e => .lds (.mem e))
  | 0xAF => some (.ea .indx .sts)
  | 0xB0 => some (.ea .ext fun e => .suba (.mem e))
  | 0xB1 => some (.ea .ext fun e => .cmpa (.mem e))
  | 0xB2 => some (.ea .ext fun e => .sbca (.mem e))
  | 0xB3 => some (.ea .ext fun e => .subd (.mem e))
  | 0xB4 => some (.ea .ext fun e => .anda (.mem e))
  | 0xB5 => some (.ea .ext fun e => .bita (.mem e))
  | 0xB6 => some (.ea .ext fun e => .ldaa (.mem e))
  | 0xB7 => some (.ea .ext .staa)
  | 0xB8 => some (.ea .ext fun e => .eora (.mem e))
  | 0xB9 => some (.ea .ext fun e => .adca (.mem e))
  | 0xBA => some (.ea .ext fun e => .oraa (.mem e))
  | 0xBB => some (.ea .ext fun e => .adda (.mem e))
  | 0xBC => some (.ea .ext fun e => .cpx (.mem e))
  | 0xBD => some (.ea .ext .jsr)
  | 0xBE => some (.ea .ext fun e => .lds (.mem e))
  | 0xBF => some (.ea .ext .sts)
  | 0xC0 => some (.imm8 fun v => .subb (.imm v))
  | 0xC1 => some (.imm8 fun v => .cmpb (.imm v))
  | 0xC2 => some (.imm8 fun v => .sbcb (.imm v))
  | 0xC3 => some (.imm16 fun v => .addd (.imm v))
  | 0xC4 => some (.imm8 fun v => .andb (.imm v))
  | 0xC5 => some (.imm8 fun v => .bitb (.imm v))
  | 0xC6 => some (.imm8 fun v => .ldab (.imm v))
  | 0xC8 => some (.imm8 fun v => .eorb (.imm v))
  | 0xC9 => some (.imm8 fun v => .adcb (.imm v))
  | 0xCA => some (.imm8 fun v => .orab (.imm v))
  | 0xCB => some (.imm8 fun v => .addb (.imm v))
  | 0xCC => some (.imm16 fun v => .ldd (.imm v))
  | 0xCE => some (.imm16 fun v => .ldx (.imm v))
  | 0xCF => some (.inh .stop)
  | 0xD0 => some (.ea .dir fun e => .subb (.mem e))
  | 0xD1 => some (.ea .dir fun e => .cmpb (.mem e))
  | 0xD2 => some (.ea .dir fun e => .sbcb (.mem e))
  | 0xD3 => some (.ea .dir fun e => .addd (.mem e))
  | 0xD4 => some (.ea .dir fun e => .andb (.mem e))
  | 0xD5 => some (.ea .dir fun e => .bitb (.mem e))
  | 0xD6 => some (.ea .dir fun e => .ldab (.mem e))
  | 0xD7 => some (.ea .dir .stab)
  | 0xD8 => some (.ea .dir fun e => .eorb (.mem e))
  | 0xD9 => some (.ea .dir fun e => .adcb (.mem e))
  | 0xDA => some (.ea .dir fun e => .orab (.mem e))
  | 0xDB => some (.ea .dir fun e => .addb (.mem e))
  | 0xDC => some (.ea .dir fun e => .ldd (.mem e))
  | 0xDD => some (.ea .dir .std)
  | 0xDE => some (.ea .dir fun e => .ldx (.mem e))
  | 0xDF => some (.ea .dir .stx)
  | 0xE0 => some (.ea .indx fun e => .subb (.mem e))
  | 0xE1 => some (.ea .indx fun e => .cmpb (.mem e))
  | 0xE2 => some (.ea .indx fun e => .sbcb (.mem e))
  | 0xE3 => some (.ea .indx fun e => .addd (.mem e))
  | 0xE4 => some (.ea .indx fun e => .andb (.mem e))
  | 0xE5 => some (.ea .indx fun e => .bitb (.mem e))
  | 0xE6 => some (.ea .indx fun e => .ldab (.mem e))
  | 0xE7 => some (.ea .indx .stab)
  | 0xE8 => some (.ea .indx fun e => .eorb (.mem e))
  | 0xE9 => some (.ea .indx fun e => .adcb (.mem e))
  | 0xEA => some (.ea .indx fun e => .orab (.mem e))
  | 0xEB => some (.ea .indx fun e => .addb (.mem e))
  | 0xEC => some (.ea .indx fun e => .ldd (.mem e))
  | 0xED => some (.ea .indx .std)
  | 0xEE => some (.ea .indx fun e => .ldx (.mem e))
  | 0xEF => some (.ea .indx .stx)
  | 0xF0 => some (.ea .ext fun e => .subb (.mem e))
  | 0xF1 => some (.ea .ext fun e => .cmpb (.mem e))
  | 0xF2 => some (.ea .ext fun e => .sbcb (.mem e))
  | 0xF3 => some (.ea .ext fun e => .addd (.mem e))
  | 0xF4 => some (.ea .ext fun e => .andb (.mem e))
  | 0xF5 => some (.ea .ext fun e => .bitb (.mem e))
  | 0xF6 => some (.ea .ext fun e => .ldab (.mem e))
  | 0xF7 => some (.ea .ext .stab)
  | 0xF8 => some (.ea .ext fun e => .eorb (.mem e))
  | 0xF9 => some (.ea .ext fun e => .adcb (.mem e))
  | 0xFA => some (.ea .ext fun e => .orab (.mem e))
  | 0xFB => some (.ea .ext fun e => .addb (.mem e))
  | 0xFC => some (.ea .ext fun e => .ldd (.mem e))
  | 0xFD => some (.ea .ext .std)
  | 0xFE => some (.ea .ext fun e => .ldx (.mem e))
  | 0xFF => some (.ea .ext .stx)
  | _ => none

/-- Page `$18` (R105): 64 opcodes. -/
def page18Row : Nat → Option Row
  | 0x08 => some (.inh .iny)
  | 0x09 => some (.inh .dey)
  | 0x1C => some (.eaMask .indy .bset)
  | 0x1D => some (.eaMask .indy .bclr)
  | 0x1E => some (.eaMaskRel .indy .brset)
  | 0x1F => some (.eaMaskRel .indy .brclr)
  | 0x30 => some (.inh .tsy)
  | 0x35 => some (.inh .tys)
  | 0x38 => some (.inh .puly)
  | 0x3A => some (.inh .aby)
  | 0x3C => some (.inh .pshy)
  | 0x60 => some (.ea .indy .neg)
  | 0x63 => some (.ea .indy .com)
  | 0x64 => some (.ea .indy .lsr)
  | 0x66 => some (.ea .indy .ror)
  | 0x67 => some (.ea .indy .asr)
  | 0x68 => some (.ea .indy .asl)
  | 0x69 => some (.ea .indy .rol)
  | 0x6A => some (.ea .indy .dec)
  | 0x6C => some (.ea .indy .inc)
  | 0x6D => some (.ea .indy .tst)
  | 0x6E => some (.ea .indy .jmp)
  | 0x6F => some (.ea .indy .clr)
  | 0x8C => some (.imm16 fun v => .cpy (.imm v))
  | 0x8F => some (.inh .xgdy)
  | 0x9C => some (.ea .dir fun e => .cpy (.mem e))
  | 0xA0 => some (.ea .indy fun e => .suba (.mem e))
  | 0xA1 => some (.ea .indy fun e => .cmpa (.mem e))
  | 0xA2 => some (.ea .indy fun e => .sbca (.mem e))
  | 0xA3 => some (.ea .indy fun e => .subd (.mem e))
  | 0xA4 => some (.ea .indy fun e => .anda (.mem e))
  | 0xA5 => some (.ea .indy fun e => .bita (.mem e))
  | 0xA6 => some (.ea .indy fun e => .ldaa (.mem e))
  | 0xA7 => some (.ea .indy .staa)
  | 0xA8 => some (.ea .indy fun e => .eora (.mem e))
  | 0xA9 => some (.ea .indy fun e => .adca (.mem e))
  | 0xAA => some (.ea .indy fun e => .oraa (.mem e))
  | 0xAB => some (.ea .indy fun e => .adda (.mem e))
  | 0xAC => some (.ea .indy fun e => .cpy (.mem e))
  | 0xAD => some (.ea .indy .jsr)
  | 0xAE => some (.ea .indy fun e => .lds (.mem e))
  | 0xAF => some (.ea .indy .sts)
  | 0xBC => some (.ea .ext fun e => .cpy (.mem e))
  | 0xCE => some (.imm16 fun v => .ldy (.imm v))
  | 0xDE => some (.ea .dir fun e => .ldy (.mem e))
  | 0xDF => some (.ea .dir .sty)
  | 0xE0 => some (.ea .indy fun e => .subb (.mem e))
  | 0xE1 => some (.ea .indy fun e => .cmpb (.mem e))
  | 0xE2 => some (.ea .indy fun e => .sbcb (.mem e))
  | 0xE3 => some (.ea .indy fun e => .addd (.mem e))
  | 0xE4 => some (.ea .indy fun e => .andb (.mem e))
  | 0xE5 => some (.ea .indy fun e => .bitb (.mem e))
  | 0xE6 => some (.ea .indy fun e => .ldab (.mem e))
  | 0xE7 => some (.ea .indy .stab)
  | 0xE8 => some (.ea .indy fun e => .eorb (.mem e))
  | 0xE9 => some (.ea .indy fun e => .adcb (.mem e))
  | 0xEA => some (.ea .indy fun e => .orab (.mem e))
  | 0xEB => some (.ea .indy fun e => .addb (.mem e))
  | 0xEC => some (.ea .indy fun e => .ldd (.mem e))
  | 0xED => some (.ea .indy .std)
  | 0xEE => some (.ea .indy fun e => .ldy (.mem e))
  | 0xEF => some (.ea .indy .sty)
  | 0xFE => some (.ea .ext fun e => .ldy (.mem e))
  | 0xFF => some (.ea .ext .sty)
  | _ => none

/-- Page `$1A` (R106): 7 opcodes. -/
def page1ARow : Nat → Option Row
  | 0x83 => some (.imm16 fun v => .cpd (.imm v))
  | 0x93 => some (.ea .dir fun e => .cpd (.mem e))
  | 0xA3 => some (.ea .indx fun e => .cpd (.mem e))
  | 0xAC => some (.ea .indx fun e => .cpy (.mem e))
  | 0xB3 => some (.ea .ext fun e => .cpd (.mem e))
  | 0xEE => some (.ea .indx fun e => .ldy (.mem e))
  | 0xEF => some (.ea .indx .sty)
  | _ => none

/-- Page `$CD` (R106): 4 opcodes. -/
def pageCDRow : Nat → Option Row
  | 0xA3 => some (.ea .indy fun e => .cpd (.mem e))
  | 0xAC => some (.ea .indy fun e => .cpx (.mem e))
  | 0xEE => some (.ea .indy fun e => .ldx (.mem e))
  | 0xEF => some (.ea .indy .stx)
  | _ => none

/-- The row of a (page, opcode) pair, or none where the pair is an illegal opcode (R92, R107). -/
def rowAt (p : Page) (op : Byte) : Option Row :=
  match p with
  | .page0 => page0Row op.toNat
  | .page18 => page18Row op.toNat
  | .page1A => page1ARow op.toNat
  | .pageCD => pageCDRow op.toNat

/-- How many bytes the address part of a memory operand takes (R97-R100). -/
def EaMode.size : EaMode → Nat
  | .ext => 2
  | _ => 1

/-- The number of operand bytes after the opcode (R91). -/
def Row.operandBytes : Row → Nat
  | .inh _ => 0
  | .imm8 _ => 1
  | .imm16 _ => 2
  | .rel _ => 1
  | .ea m _ => m.size
  | .eaMask m _ => m.size + 1
  | .eaMaskRel m _ => m.size + 2

/-- The memory operand at the head of the operand bytes, and the bytes after it (R97-R100; EXT is high byte
first, 20_memory.md R65). -/
def EaMode.take : EaMode → List Byte → Option (Ea × List Byte)
  | .dir, b :: t => some (.dir b, t)
  | .ext, h :: l :: t => some (.ext (cat16 h l), t)
  | .indx, b :: t => some (.indx b, t)
  | .indy, b :: t => some (.indy b, t)
  | _, _ => none

/-- The instruction a row makes of the operand bytes, in the order address, mask, offset (R96-R102, R196). -/
def Row.build : Row → List Byte → Option Instr
  | .inh i, _ => some i
  | .imm8 f, v :: _ => some (f v)
  | .imm16 f, j :: k :: _ => some (f (cat16 j k))
  | .rel f, r :: _ => some (f r)
  | .ea m f, bs => (m.take bs).map fun r => f r.1
  | .eaMask m f, bs =>
    match m.take bs with
    | some (e, mm :: _) => some (f e mm)
    | _ => none
  | .eaMaskRel m f, bs =>
    match m.take bs with
    | some (e, mm :: rr :: _) => some (f e mm rr)
    | _ => none
  | _, _ => none

/-- Decode the operand bytes of opcode `op` on page `p`; `lead` is the number of bytes before them. -/
def decodeOn (p : Page) (lead : Nat) (op : Byte) (operands : List Byte) : Except DecodeError (Instr × Nat) :=
  match rowAt p op with
  | none => .error (.illegalOpcode p op)
  | some row =>
    match row.build operands with
    | none => .error .truncated
    | some i => .ok (i, lead + row.operandBytes)

/-- The instruction at the head of the bytes and its length (R92). -/
def decode : List Byte → Except DecodeError (Instr × Nat)
  | [] => .error .truncated
  | b :: rest =>
    match prebytePage b with
    | none => decodeOn .page0 1 b rest
    | some p =>
      match rest with
      | [] => .error .truncated
      | op :: operands => decodeOn p 2 op operands

/-- The number of operand bytes an instruction on page `p` with opcode `op` has; an illegal encoding has none
(R107: it consumes no operand bytes). -/
def operandCount (p : Page) (op : Byte) : Nat :=
  match rowAt p op with
  | none => 0
  | some row => row.operandBytes

/-- The byte of a number that lies `k` bytes up from bit 0. -/
def byteOf (w k : Nat) : Byte := BitVec.ofNat 8 (w >>> (8 * k))

/-- The bytes of an instruction given as a number, five of them, the bits above `nbits` taken as 0. The table
numbers a row with a prebyte as the two leading bytes read as one big-endian number (R111: prebyte in bits
15:8), so a 16-bit number whose high byte is a prebyte is laid out high byte first; any other number has its
first byte in bits 7:0 and the later bytes above it (log entry 23). -/
def tableBytes (nbits w : Nat) : List Byte :=
  let v := w % 2 ^ nbits
  if nbits = 16 ∧ (prebytePage (byteOf v 1)).isSome then
    [byteOf v 1, byteOf v 0, 0, 0, 0]
  else
    [byteOf v 0, byteOf v 1, byteOf v 2, byteOf v 3, byteOf v 4]

/-- The instruction the decoder reads from an instruction given as a number of `nbits` bits. -/
def decodeTableWord (nbits w : Nat) : Option Instr :=
  match decode (tableBytes nbits w) with
  | .ok (i, _) => some i
  | .error _ => none

/-- The address bytes of a memory operand (R97-R100). -/
def Ea.bytes : Ea → List Byte
  | .dir dd => [dd]
  | .ext a => [hi a, lo a]
  | .indx ff => [ff]
  | .indy ff => [ff]

/-- Opcode bytes chosen by the memory operand's mode; an empty list where the tables have no such form. -/
def encEa (dir ext indx indy : List Byte) (e : Ea) (after : List Byte) : List Byte :=
  let op := match e with
    | .dir _ => dir
    | .ext _ => ext
    | .indx _ => indx
    | .indy _ => indy
  if op.isEmpty then [] else op ++ e.bytes ++ after

/-- An 8-bit source operand behind the opcode of its mode. -/
def encSrc8 (imm dir ext indx indy : List Byte) : Src8 → List Byte
  | .imm v => imm ++ [v]
  | .mem e => encEa dir ext indx indy e []

/-- A 16-bit source operand behind the opcode of its mode, high byte first (R65). -/
def encSrc16 (imm dir ext indx indy : List Byte) : Src16 → List Byte
  | .imm v => imm ++ [hi v, lo v]
  | .mem e => encEa dir ext indx indy e []

/-- The bytes of a well-formed instruction; a form the tables do not have encodes to no bytes. -/
def encode : Instr → List Byte
  | .aba => [0x1B]
  | .abx => [0x3A]
  | .aby => [0x18, 0x3A]
  | .adca m => encSrc8 [0x89] [0x99] [0xB9] [0xA9] [0x18, 0xA9] m
  | .adcb m => encSrc8 [0xC9] [0xD9] [0xF9] [0xE9] [0x18, 0xE9] m
  | .adda m => encSrc8 [0x8B] [0x9B] [0xBB] [0xAB] [0x18, 0xAB] m
  | .addb m => encSrc8 [0xCB] [0xDB] [0xFB] [0xEB] [0x18, 0xEB] m
  | .addd m => encSrc16 [0xC3] [0xD3] [0xF3] [0xE3] [0x18, 0xE3] m
  | .anda m => encSrc8 [0x84] [0x94] [0xB4] [0xA4] [0x18, 0xA4] m
  | .andb m => encSrc8 [0xC4] [0xD4] [0xF4] [0xE4] [0x18, 0xE4] m
  | .asl ea => encEa [] [0x78] [0x68] [0x18, 0x68] ea []
  | .asla => [0x48]
  | .aslb => [0x58]
  | .asld => [0x05]
  | .asr ea => encEa [] [0x77] [0x67] [0x18, 0x67] ea []
  | .asra => [0x47]
  | .asrb => [0x57]
  | .bcc rr => [0x24, rr]
  | .bcs rr => [0x25, rr]
  | .beq rr => [0x27, rr]
  | .bge rr => [0x2C, rr]
  | .bgt rr => [0x2E, rr]
  | .bhi rr => [0x22, rr]
  | .bhs rr => [0x24, rr]
  | .ble rr => [0x2F, rr]
  | .blo rr => [0x25, rr]
  | .bls rr => [0x23, rr]
  | .blt rr => [0x2D, rr]
  | .bmi rr => [0x2B, rr]
  | .bne rr => [0x26, rr]
  | .bpl rr => [0x2A, rr]
  | .bra rr => [0x20, rr]
  | .brn rr => [0x21, rr]
  | .bsr rr => [0x8D, rr]
  | .bvc rr => [0x28, rr]
  | .bvs rr => [0x29, rr]
  | .bclr ea mm => encEa [0x15] [] [0x1D] [0x18, 0x1D] ea [mm]
  | .bset ea mm => encEa [0x14] [] [0x1C] [0x18, 0x1C] ea [mm]
  | .brclr ea mm rr => encEa [0x13] [] [0x1F] [0x18, 0x1F] ea [mm, rr]
  | .brset ea mm rr => encEa [0x12] [] [0x1E] [0x18, 0x1E] ea [mm, rr]
  | .bita m => encSrc8 [0x85] [0x95] [0xB5] [0xA5] [0x18, 0xA5] m
  | .bitb m => encSrc8 [0xC5] [0xD5] [0xF5] [0xE5] [0x18, 0xE5] m
  | .cba => [0x11]
  | .clc => [0x0C]
  | .cli => [0x0E]
  | .clr ea => encEa [] [0x7F] [0x6F] [0x18, 0x6F] ea []
  | .clra => [0x4F]
  | .clrb => [0x5F]
  | .clv => [0x0A]
  | .cmpa m => encSrc8 [0x81] [0x91] [0xB1] [0xA1] [0x18, 0xA1] m
  | .cmpb m => encSrc8 [0xC1] [0xD1] [0xF1] [0xE1] [0x18, 0xE1] m
  | .com ea => encEa [] [0x73] [0x63] [0x18, 0x63] ea []
  | .coma => [0x43]
  | .comb => [0x53]
  | .cpd m => encSrc16 [0x1A, 0x83] [0x1A, 0x93] [0x1A, 0xB3] [0x1A, 0xA3] [0xCD, 0xA3] m
  | .cpx m => encSrc16 [0x8C] [0x9C] [0xBC] [0xAC] [0xCD, 0xAC] m
  | .cpy m => encSrc16 [0x18, 0x8C] [0x18, 0x9C] [0x18, 0xBC] [0x1A, 0xAC] [0x18, 0xAC] m
  | .daa => [0x19]
  | .dec ea => encEa [] [0x7A] [0x6A] [0x18, 0x6A] ea []
  | .deca => [0x4A]
  | .decb => [0x5A]
  | .des => [0x34]
  | .dex => [0x09]
  | .dey => [0x18, 0x09]
  | .eora m => encSrc8 [0x88] [0x98] [0xB8] [0xA8] [0x18, 0xA8] m
  | .eorb m => encSrc8 [0xC8] [0xD8] [0xF8] [0xE8] [0x18, 0xE8] m
  | .fdiv => [0x03]
  | .idiv => [0x02]
  | .inc ea => encEa [] [0x7C] [0x6C] [0x18, 0x6C] ea []
  | .inca => [0x4C]
  | .incb => [0x5C]
  | .ins => [0x31]
  | .inx => [0x08]
  | .iny => [0x18, 0x08]
  | .jmp ea => encEa [] [0x7E] [0x6E] [0x18, 0x6E] ea []
  | .jsr ea => encEa [0x9D] [0xBD] [0xAD] [0x18, 0xAD] ea []
  | .ldaa m => encSrc8 [0x86] [0x96] [0xB6] [0xA6] [0x18, 0xA6] m
  | .ldab m => encSrc8 [0xC6] [0xD6] [0xF6] [0xE6] [0x18, 0xE6] m
  | .ldd m => encSrc16 [0xCC] [0xDC] [0xFC] [0xEC] [0x18, 0xEC] m
  | .lds m => encSrc16 [0x8E] [0x9E] [0xBE] [0xAE] [0x18, 0xAE] m
  | .ldx m => encSrc16 [0xCE] [0xDE] [0xFE] [0xEE] [0xCD, 0xEE] m
  | .ldy m => encSrc16 [0x18, 0xCE] [0x18, 0xDE] [0x18, 0xFE] [0x1A, 0xEE] [0x18, 0xEE] m
  | .lsl ea => encEa [] [0x78] [0x68] [0x18, 0x68] ea []
  | .lsla => [0x48]
  | .lslb => [0x58]
  | .lsld => [0x05]
  | .lsr ea => encEa [] [0x74] [0x64] [0x18, 0x64] ea []
  | .lsra => [0x44]
  | .lsrb => [0x54]
  | .lsrd => [0x04]
  | .mul => [0x3D]
  | .neg ea => encEa [] [0x70] [0x60] [0x18, 0x60] ea []
  | .nega => [0x40]
  | .negb => [0x50]
  | .nop => [0x01]
  | .oraa m => encSrc8 [0x8A] [0x9A] [0xBA] [0xAA] [0x18, 0xAA] m
  | .orab m => encSrc8 [0xCA] [0xDA] [0xFA] [0xEA] [0x18, 0xEA] m
  | .psha => [0x36]
  | .pshb => [0x37]
  | .pshx => [0x3C]
  | .pshy => [0x18, 0x3C]
  | .pula => [0x32]
  | .pulb => [0x33]
  | .pulx => [0x38]
  | .puly => [0x18, 0x38]
  | .rol ea => encEa [] [0x79] [0x69] [0x18, 0x69] ea []
  | .rola => [0x49]
  | .rolb => [0x59]
  | .ror ea => encEa [] [0x76] [0x66] [0x18, 0x66] ea []
  | .rora => [0x46]
  | .rorb => [0x56]
  | .rti => [0x3B]
  | .rts => [0x39]
  | .sba => [0x10]
  | .sbca m => encSrc8 [0x82] [0x92] [0xB2] [0xA2] [0x18, 0xA2] m
  | .sbcb m => encSrc8 [0xC2] [0xD2] [0xF2] [0xE2] [0x18, 0xE2] m
  | .sec => [0x0D]
  | .sei => [0x0F]
  | .sev => [0x0B]
  | .staa ea => encEa [0x97] [0xB7] [0xA7] [0x18, 0xA7] ea []
  | .stab ea => encEa [0xD7] [0xF7] [0xE7] [0x18, 0xE7] ea []
  | .std ea => encEa [0xDD] [0xFD] [0xED] [0x18, 0xED] ea []
  | .stop => [0xCF]
  | .sts ea => encEa [0x9F] [0xBF] [0xAF] [0x18, 0xAF] ea []
  | .stx ea => encEa [0xDF] [0xFF] [0xEF] [0xCD, 0xEF] ea []
  | .sty ea => encEa [0x18, 0xDF] [0x18, 0xFF] [0x1A, 0xEF] [0x18, 0xEF] ea []
  | .suba m => encSrc8 [0x80] [0x90] [0xB0] [0xA0] [0x18, 0xA0] m
  | .subb m => encSrc8 [0xC0] [0xD0] [0xF0] [0xE0] [0x18, 0xE0] m
  | .subd m => encSrc16 [0x83] [0x93] [0xB3] [0xA3] [0x18, 0xA3] m
  | .swi => [0x3F]
  | .tab => [0x16]
  | .tap => [0x06]
  | .tba => [0x17]
  | .test => [0x00]
  | .tpa => [0x07]
  | .tst ea => encEa [] [0x7D] [0x6D] [0x18, 0x6D] ea []
  | .tsta => [0x4D]
  | .tstb => [0x5D]
  | .tsx => [0x30]
  | .tsy => [0x18, 0x30]
  | .txs => [0x35]
  | .tys => [0x18, 0x35]
  | .wai => [0x3E]
  | .xgdx => [0x8F]
  | .xgdy => [0x18, 0x8F]

end Sys2Proof
end

