-- ==== Sys2Proof/Machine/Fetch.lean ====
section
/-! DEFINITION. Fetching an instruction at PC (00_scope.md R10 Fetch8, 10_state.md R25, 30_encoding.md R92), and placing
one where it is fetched. -/

namespace Sys2Proof.Machine

open Sys2Proof.Config

/-- `Fetch8()`: a read like any other (20_memory.md R81), then PC + 1. -/
def fetch8 (s : State) : Byte × State :=
  let r := memRead s.pc s
  (r.1, r.2.setPc (s.pc + 1))

/-- `n` fetches, in order. -/
def fetchN : Nat → State → List Byte × State
  | 0, s => ([], s)
  | n + 1, s =>
    let r := fetch8 s
    let t := fetchN n r.2
    (r.1 :: t.1, t.2)

/-- The bytes of one instruction: the prebyte if there is one, the opcode, and the operand bytes the (page, opcode)
pair selects (R92). An illegal pair has no operand bytes (60_exceptions.md R460). -/
def fetchInstr (s : State) : List Byte × State :=
  let p := fetch8 s
  match prebytePage p.1 with
  | none =>
    let o := fetchN (operandCount .page0 p.1) p.2
    (p.1 :: o.1, o.2)
  | some page =>
    let c := fetch8 p.2
    let o := fetchN (operandCount page c.1) c.2
    (p.1 :: c.1 :: o.1, o.2)

/-- Store bytes at an address and the following ones, whatever they are (the host's load, R509). -/
def storeBytes : List Byte → Word → State → State
  | [], _, s => s
  | v :: t, a, s => storeBytes t (a + 1) (s.store a v)

/-- Whether a fetch at an address reads the stored byte. -/
def fetchable (p : Params) (a : Word) : Bool :=
  match kindAt p a with
  | .ram => true
  | .rom => true
  | _ => false

/-- Make the five addresses at PC plain RAM, when one of them is not memory: `withFetchWord` stores an instruction
there (log entry 22). -/
def mapCode (s : State) : State :=
  if fetchable s.cfg s.pc && fetchable s.cfg (s.pc + 1) && fetchable s.cfg (s.pc + 2) &&
      fetchable s.cfg (s.pc + 3) && fetchable s.cfg (s.pc + 4) then s
  else s.setCfg { s.cfg with memoryMap := ⟨s.pc, 5, .ram⟩ :: s.cfg.memoryMap }

/-- Store an instruction's bytes at PC, in memory. -/
def placeCode (bytes : List Byte) (s : State) : State := storeBytes bytes s.pc (mapCode s)

end Sys2Proof.Machine
end

