-- ==== Sys2Proof/Machine/Step.lean ====
section
/-! DEFINITION. The machine's step (60_exceptions.md R453) and the placing of one instruction where the next step fetches
it. -/

namespace Sys2Proof.Machine

open Host

/-- Fetch, decode and run one instruction at PC; an illegal encoding takes its trap (R460). -/
def runInstr (s : State) : Outcome State Fault Refusal :=
  let f := fetchInstr s
  match decode f.1 with
  | .ok (i, _) => exec i f.2
  | .error _ => .next (illegalOpcode s.pc f.2)

/-- `Step()` of a running machine (R453): an accepted interrupt is entered and no instruction runs. -/
def runStep (s : State) : Outcome State Fault Refusal :=
  match select s with
  | some src => .next (trapEntry src s.pc true s)
  | none => runInstr (s.setIrqInhibit false)

/-- `Step()` (R453), the environment having acted. -/
def cpuStep (s : State) : Outcome State Fault Refusal :=
  match topReset s with
  | some c => .next (resetSequence c s)
  | none =>
    match s.run with
    | .hung => .next s
    | .waiting => .next (waitStep s)
    | .stopped => .next (stopStep s)
    | .running => runStep s

/-- One step: the environment's turn, then the CPU's. -/
def step (s : State) : Outcome State Fault Refusal := cpuStep (envTurn s)

/-- The instruction given as the opcode table numbers it, stored at PC, and the machine made ready to fetch it next (log
entry 22). -/
def State.withFetchWord (s : State) (nbits w : Nat) : State := readyToRun (placeCode (tableBytes nbits w) s)

end Sys2Proof.Machine
end

