-- ==== Sys2Proof/Machine/Loader.lean ====
section
/-! DEFINITION. The host's load of a Motorola S19 image (70_reset_and_hazards.md R507-R509), on text as a list of
characters; and the start of a run from a loaded memory. It is not part of a step. -/

namespace Sys2Proof.Machine

/-- Why a file is refused (R509). -/
inductive LoadError where
  /-- A line that does not begin with S and a type digit. -/
  | notARecord
  /-- A type other than S0, S1 and S9. -/
  | recordType (c : Char)
  /-- A field that is not hexadecimal digit pairs. -/
  | badDigit
  /-- The line does not carry exactly the bytes NN counts, or NN leaves no room for an address and a checksum. -/
  | badLength
  /-- CC is not the complement of the sum. -/
  | badChecksum
deriving DecidableEq, Repr

/-- What one line asks for. -/
inductive Record where
  | skip
  | data (start : Word) (bytes : List Byte)
  | stop
deriving DecidableEq, Repr

/-- The value of a hexadecimal digit, either case (log entry 29). -/
def hexDigit (c : Char) : Option Nat :=
  let n := c.toNat
  if 48 ≤ n ∧ n ≤ 57 then some (n - 48)
  else if 65 ≤ n ∧ n ≤ 70 then some (n - 55)
  else if 97 ≤ n ∧ n ≤ 102 then some (n - 87)
  else none

/-- Digit pairs as bytes. -/
def hexBytes : List Char → Option (List Byte)
  | [] => some []
  | [_] => none
  | p :: q :: t =>
    match hexDigit p, hexDigit q, hexBytes t with
    | some h, some l, some r => some (BitVec.ofNat 8 (16 * h + l) :: r)
    | _, _, _ => none

/-- White space at the ends of a line: space, tab and carriage return, the model's choice (log entry 29). -/
def isBlank (c : Char) : Bool := decide (c = ' ') || decide (c = '\t') || decide (c = '\r')

/-- Strip surrounding white space (R509). -/
def strip (l : List Char) : List Char := ((l.dropWhile isBlank).reverse.dropWhile isBlank).reverse

/-- The sum of bytes, modulo 256. -/
def byteSum : List Byte → Byte
  | [] => 0
  | v :: t => v + byteSum t

/-- The checksum: `$FF` less the sum of NN, the address and the data (R508). -/
def checksum (summed : List Byte) : Byte := 0xFF - byteSum summed

/-- The bytes of an S1 or S9 record after the type: NN, the address, the data, CC (R508, R509). -/
def dataRecord (bytes : List Byte) : Except LoadError Record :=
  match bytes with
  | nn :: ah :: al :: rest =>
    match rest.reverse with
    | [] => .error .badLength
    | cc :: revData =>
      if nn.toNat ≠ 2 + rest.length then .error .badLength
      else if cc ≠ checksum (nn :: ah :: al :: revData) then .error .badChecksum
      else .ok (.data (cat16 ah al) revData.reverse)
  | _ => .error .badLength

/-- A record's fields: hexadecimal digit pairs that the byte count and the checksum agree with (R509). -/
def checkedRecord (digits : List Char) : Except LoadError Record :=
  match hexBytes digits with
  | none => .error .badDigit
  | some bytes => dataRecord bytes

/-- One line (R509). An S9 record stops the load, its fields checked like an S1's (93_implementation_defined.md U16) and
otherwise without meaning; an S0 line is skipped. -/
def parseLine (l : List Char) : Except LoadError Record :=
  match strip l with
  | [] => .ok .skip
  | 'S' :: '0' :: _ => .ok .skip
  | 'S' :: '9' :: t =>
    match checkedRecord t with
    | .ok _ => .ok .stop
    | .error e => .error e
  | 'S' :: '1' :: t => checkedRecord t
  | 'S' :: c :: _ => .error (.recordType c)
  | _ => .error .notARecord

/-- Load lines in order; a later record overwrites an earlier one; ROM is written too; a record that runs past `$FFFF`
wraps (R509). -/
def loadLines : List (List Char) → State → Except LoadError State
  | [], s => .ok s
  | l :: t, s =>
    match parseLine l with
    | .error e => .error e
    | .ok .stop => .ok s
    | .ok .skip => loadLines t s
    | .ok (.data a bytes) => loadLines t (storeBytes bytes a s)

/-- Split text at line feeds, which alone end a line; the model's choice (log entry 29). -/
def splitLines : List Char → List (List Char)
  | [] => [[]]
  | c :: t =>
    if c = '\n' then [] :: splitLines t
    else
      match splitLines t with
      | [] => [[c]]
      | l :: r => (c :: l) :: r

/-- Load a file (R509). -/
def loadS19 (text : List Char) (s : State) : Except LoadError State := loadLines (splitLines text) s

/-- The power-on of a loaded machine: PC is the word at `$FFFE` of the loaded memory (R46, R500), the other registers
as State.reset has them (log entry 22). -/
def powerOn (cfg : Config.Params) (loaded : State) : State :=
  let s := { State.reset with mem := loaded.mem, cfg := cfg, script := loaded.script, busScript := loaded.busScript }
  let v := memRead16 (resetVector .reset) s
  v.2.setPc v.1

end Sys2Proof.Machine
end

