-- ==== Sys2Proof/Machine/Timing.lean ====
section
/-! DEFINITION. The cycle counts of the tables (70_reset_and_hazards.md R525, R526). No rule depends on one and the state
counts none (log entry 27). -/

namespace Sys2Proof.Machine

/-- An entry of the Cycles column: a number, `14+n`, or `∞`. -/
inductive Cycles where
  | exact (n : Nat)
  | atLeast (n : Nat)
  | forever
deriving DecidableEq, Repr

/-- A count per memory mode. -/
def eaCycles (dir ext indx indy : Nat) : Ea → Nat
  | .dir _ => dir
  | .ext _ => ext
  | .indx _ => indx
  | .indy _ => indy

/-- The 8-bit accumulator instructions with an operand. -/
def src8Cycles : Src8 → Nat
  | .imm _ => 2
  | .mem e => eaCycles 3 4 4 5 e

/-- A count for the immediate and per memory mode. -/
def src16Cycles (imm dir ext indx indy : Nat) : Src16 → Nat
  | .imm _ => imm
  | .mem e => eaCycles dir ext indx indy e

/-- The read-modify-write instructions and TST; they have no DIR row. -/
def rmwCycles : Ea → Nat := eaCycles 0 6 6 7

/-- BCLR, BSET, BRCLR, BRSET; they have no EXT row. -/
def maskCycles : Ea → Nat := eaCycles 6 0 7 8

/-- The count of a well-formed instruction (R526). -/
def cycleCount : Instr → Cycles
  | .adca m | .adcb m | .adda m | .addb m | .anda m | .andb m | .bita m | .bitb m | .cmpa m | .cmpb m | .eora m
  | .eorb m | .ldaa m | .ldab m | .oraa m | .orab m | .sbca m | .sbcb m | .suba m | .subb m => .exact (src8Cycles m)
  | .staa e | .stab e => .exact (eaCycles 3 4 4 5 e)
  | .asl e | .lsl e | .asr e | .clr e | .com e | .dec e | .inc e | .lsr e | .neg e | .rol e | .ror e
  | .tst e => .exact (rmwCycles e)
  | .bclr e _ | .bset e _ => .exact (maskCycles e)
  | .brclr e _ _ | .brset e _ _ => .exact (maskCycles e)
  | .addd m | .subd m | .cpx m => .exact (src16Cycles 4 5 6 6 7 m)
  | .cpd m | .cpy m => .exact (src16Cycles 5 6 7 7 7 m)
  | .ldd m | .lds m | .ldx m => .exact (src16Cycles 3 4 5 5 6 m)
  | .ldy m => .exact (src16Cycles 4 5 6 6 6 m)
  | .std e | .sts e | .stx e => .exact (eaCycles 4 5 5 6 e)
  | .sty e => .exact (eaCycles 5 6 6 6 e)
  | .jmp e => .exact (eaCycles 0 3 3 4 e)
  | .jsr e => .exact (eaCycles 5 6 6 7 e)
  | .bcc _ | .bhs _ | .bcs _ | .blo _ | .beq _ | .bge _ | .bgt _ | .bhi _ | .ble _ | .bls _ | .blt _ | .bmi _
  | .bne _ | .bpl _ | .bra _ | .brn _ | .bvc _ | .bvs _ => .exact 3
  | .bsr _ => .exact 6
  | .aba | .asla | .aslb | .asra | .asrb | .cba | .clc | .cli | .clra | .clrb | .clv | .coma | .comb | .daa | .deca
  | .decb | .inca | .incb | .lsla | .lslb | .lsra | .lsrb | .nega | .negb | .nop | .rola | .rolb | .rora | .rorb
  | .sba | .sec | .sei | .sev | .stop | .tab | .tap | .tba | .tpa | .tsta | .tstb => .exact 2
  | .abx | .asld | .lsld | .lsrd | .des | .dex | .ins | .inx | .psha | .pshb | .tsx | .txs | .xgdx => .exact 3
  | .aby | .dey | .iny | .tsy | .tys | .xgdy | .pshx | .pula | .pulb => .exact 4
  | .pshy | .pulx | .rts => .exact 5
  | .puly => .exact 6
  | .mul => .exact 10
  | .rti => .exact 12
  | .swi => .exact 14
  | .wai => .atLeast 14
  | .idiv | .fdiv => .exact 41
  | .test => .forever

/-- The count an instruction has in the tables; none for a form that has no row. -/
def cycles (i : Instr) : Option Cycles := if i.wf then some (cycleCount i) else none

/-- The nanoseconds of a number of cycles at a bus clock in Hz, rounded down (R525: 500 ns a cycle at 2 MHz). -/
def nanoseconds (eClockHz n : Nat) : Nat := n * 1000000000 / eClockHz

end Sys2Proof.Machine
end

