-- ==== Sys2Proof/Safety.lean ====
section
/-! DEFINITION. What a well-formed state is, and when a run ends (70_reset_and_hazards.md R510, parameters END_PC and
STEP_BUDGET of 00_scope.md R7). -/

namespace Sys2Proof.Machine

/-- What every step keeps: memory in its canonical form, and the bits of TCTL2 drawn as 0 reading 0 (60_exceptions.md
R471). Every other field may hold any value. -/
abbrev State.Inv (s : State) : Prop :=
  Memory.wf s.mem ∧ s.io.tctl2 &&& ~~~ tctl2Bits s.cfg.tctl2Layout = 0

/-- Every request and every reset of `t` stands in `s` already. -/
def assertsNothing (s t : State) : Prop :=
  (∀ m, requested t m = true → requested s m = true) ∧ (Line.xirq ∈ t.lines → Line.xirq ∈ s.lines) ∧
    ∀ c, c ∈ t.resets → c ∈ s.resets

/-- The environment asserts nothing further at the next `n` boundaries, the machine itself changing nothing. -/
def quietFor : Nat → State → Prop
  | 0, _ => True
  | n + 1, s => assertsNothing s (envTurn s) ∧ quietFor n (envTurn s)

/-- The environment asserts nothing further (R510 (b)). What it asserts already may stay asserted, and the timer may do what
makes no source pending. -/
def quiet (s : State) : Prop := quietFor s.script.length s

/-- The machine waits or is stopped, and nothing asserted now ends that: the CPU's part of a step changes nothing. -/
def asleep (s : State) : Prop := (s.run = .waiting ∨ s.run = .stopped) ∧ cpuStep s = .next s

/-- Why a run is over (R510 (a) to (d)). -/
inductive RunEnd where
  | hung | asleep | endPc | budget
deriving DecidableEq, Repr

/-- R510: a run that has taken `steps` steps is over for a reason. -/
def runOver (endPc : Option Word) (budget : Option Nat) (steps : Nat) (s : State) : RunEnd → Prop
  | .hung => s.run = .hung
  | .asleep => asleep s ∧ quiet s
  | .endPc => endPc = some s.pc
  | .budget => ∃ n, budget = some n ∧ n ≤ steps

/-- The idle end of a program that branches to itself: the step changes nothing (R510). -/
def idle (s : State) : Prop := step s = .next s

end Sys2Proof.Machine
end

