-- ==== Sys2Proof/Claims.lean ====
section
/-! DEFINITION. The vocabulary of the statements: what an instruction leaves alone, what it stores, and the results and
flags the spec's rules describe, said in terms of numbers and bits and not of the model's own flag functions. -/

namespace Sys2Proof.Claims

open Sys2Proof.Machine Host

/-- The registers of 10_state.md R20, CCR apart; D is A and B. -/
inductive CpuReg where
  | a | b | x | y | sp | pc
deriving DecidableEq, Repr

/-- The value of a register, a byte zero-extended. -/
def value (s : State) : CpuReg → Word
  | .a => zext16 s.a
  | .b => zext16 s.b
  | .x => s.x
  | .y => s.y
  | .sp => s.sp
  | .pc => s.pc

/-- Every register and every flag not listed, the request lines, the asserted resets, the parameters and the script are
as before. -/
def KeepsData (regs : List CpuReg) (flags : List Flag) (s t : State) : Prop :=
  (∀ r, r ∉ regs → value t r = value s r) ∧ (∀ f, f ∉ flags → t.flag f = s.flag f) ∧ t.lines = s.lines ∧
    t.resets = s.resets ∧ t.cfg = s.cfg ∧ t.script = s.script

/-- KeepsData, and the run state and the interrupt inhibit are as before. -/
def Keeps (regs : List CpuReg) (flags : List Flag) (s t : State) : Prop :=
  KeepsData regs flags s t ∧ t.run = s.run ∧ t.irqInhibit = s.irqInhibit

/-- Every byte of memory is as before. -/
def KeepsMemory (s t : State) : Prop := ∀ a, t.stored a = s.stored a

/-- The register block, the I/O events and the timer's script of a state are another's. -/
def SameIo (u t : State) : Prop := t.io = u.io ∧ t.events = u.events ∧ t.busScript = u.busScript

/-- Nothing is stored and no I/O access is made. -/
def NoAccess (s t : State) : Prop := KeepsMemory s t ∧ SameIo s t

/-- Every byte of memory outside the listed addresses is as before. -/
def StoresOnly (addrs : List Word) (s t : State) : Prop := ∀ a, a ∉ addrs → t.stored a = s.stored a

/-- An 8-bit operand is read and nothing is stored: of the I/O side, only what that read does is done. -/
def Reads8 (m : Src8) (s t : State) : Prop := KeepsMemory s t ∧ SameIo (operand8 m s).2 t

/-- A 16-bit operand is read and nothing is stored. -/
def Reads16 (m : Src16) (s t : State) : Prop := KeepsMemory s t ∧ SameIo (operand16 m s).2 t

/-- The byte at the operand's address is read and nothing is stored. -/
def ReadsByte (e : Ea) (s t : State) : Prop := KeepsMemory s t ∧ SameIo (memRead (eaAddr e s) s).2 t

/-- `v` is written at `a` as MemWrite does, and no other byte of memory changes. -/
def Puts (a : Word) (v : Byte) (s t : State) : Prop :=
  t.mem = (memWrite a v s).mem ∧ SameIo (memWrite a v s) t ∧ StoresOnly [a] s t

/-- `v` is written at `a` and `a + 1` as MemWrite does, and no other byte of memory changes. -/
def Puts16 (a v : Word) (s t : State) : Prop :=
  t.mem = (memWrite16 a v s).mem ∧ SameIo (memWrite16 a v s) t ∧ StoresOnly [a, a + 1] s t

/-- The byte at `a` is read, then `v` is written there, and no other byte of memory changes (20_memory.md R70). -/
def Rewrites (a : Word) (v : Byte) (s t : State) : Prop :=
  Puts a v (memRead a s).2 t ∧ StoresOnly [a] s t

variable {w : Nat}

/-- N is the top bit of a result, Z says that it is 0 (R33, R34). -/
def NZof (r : BitVec w) (t : State) : Prop := t.flag .n = r.msb ∧ t.flag .z = decide (r = 0)

/-- N and Z of a value, V cleared. -/
def LogicFlags (r : BitVec w) (t : State) : Prop := NZof r t ∧ t.flag .v = false

/-- `r` is the wrapped sum, C is the unsigned overflow, V the signed one, N and Z are the result's (R35, R37). -/
def IsSum (a m : BitVec w) (cin : Bool) (r : BitVec w) (t : State) : Prop :=
  r.toNat = (a.toNat + m.toNat + cin.toNat) % 2 ^ w ∧ NZof r t ∧
    t.flag .c = decide (2 ^ w ≤ a.toNat + m.toNat + cin.toNat) ∧
    t.flag .v = decide (a.toInt + m.toInt + cin.toNat < -2 ^ (w - 1) ∨ 2 ^ (w - 1) ≤ a.toInt + m.toInt + cin.toNat)

/-- H is the carry from bit 3 to bit 4 (R35). -/
def IsHalf (a m : Byte) (cin : Bool) (t : State) : Prop :=
  t.flag .h = decide (16 ≤ a.toNat % 16 + m.toNat % 16 + cin.toNat)

/-- `r` is the wrapped difference, C is the borrow, V the signed overflow, N and Z are the result's (R36, R38). -/
def IsDifference (a m : BitVec w) (bin : Bool) (r : BitVec w) (t : State) : Prop :=
  (r.toNat : Int) = ((a.toNat : Int) - m.toNat - bin.toNat) % 2 ^ w ∧ NZof r t ∧
    t.flag .c = decide (a.toNat < m.toNat + bin.toNat) ∧
    t.flag .v = decide (a.toInt - m.toInt - bin.toNat < -2 ^ (w - 1) ∨ 2 ^ (w - 1) ≤ a.toInt - m.toInt - bin.toNat)

/-- Every bit moves up one place, `low` enters bit 0, the top bit leaves into C, V is N xor C. -/
def IsShiftLeft (m : BitVec w) (low : Bool) (r : BitVec w) (t : State) : Prop :=
  (∀ i, i + 1 < w → r.getLsbD (i + 1) = m.getLsbD i) ∧ r.getLsbD 0 = low ∧ NZof r t ∧
    t.flag .c = m.getLsbD (w - 1) ∧ t.flag .v = (t.flag .n ^^ t.flag .c)

/-- Every bit moves down one place, `high` enters the top bit, bit 0 leaves into C, V is N xor C. -/
def IsShiftRight (m : BitVec w) (high : Bool) (r : BitVec w) (t : State) : Prop :=
  (∀ i, i + 1 < w → r.getLsbD i = m.getLsbD (i + 1)) ∧ r.getLsbD (w - 1) = high ∧ NZof r t ∧
    t.flag .c = m.getLsbD 0 ∧ t.flag .v = (t.flag .n ^^ t.flag .c)

/-- A word is pushed: the low byte is written at SP, then the high byte at SP - 1, and no other byte of memory changes;
in RAM the two bytes are then there (20_memory.md R76). -/
def PushesWord (v : Word) (s t : State) : Prop :=
  Puts (s.sp - 1) (hi v) (memWrite s.sp (lo v) s) t ∧ StoresOnly [s.sp, s.sp - 1] s t ∧ t.sp = s.sp - 2 ∧
    (s.Inv → kindAt s.cfg s.sp = .ram → kindAt s.cfg (s.sp - 1) = .ram →
      t.stored s.sp = lo v ∧ t.stored (s.sp - 1) = hi v)

/-- The word the next two-byte pull gives: high byte from SP + 1, low byte from SP + 2 (20_memory.md R77). -/
def pulledWord (s : State) : Word :=
  cat16 (memRead (s.sp + 1) s).1 (memRead (s.sp + 2) (memRead (s.sp + 1) s).2).1

/-- Two bytes are pulled: nothing is stored, SP is two higher. -/
def PullsWord (s t : State) : Prop :=
  KeepsMemory s t ∧ t.sp = s.sp + 2 ∧ SameIo (memRead (s.sp + 2) (memRead (s.sp + 1) s).2).2 t

/-- A branch target: the signed offset from the address after the instruction, modulo 65536 (30_encoding.md R101). -/
def target (pcNext : Word) (rr : Byte) : Word := BitVec.ofInt 16 ((pcNext.toNat : Int) + rr.toInt)

/-- The state after a branch: only PC can differ. -/
def branched (rr : Byte) (s : State) (taken : Bool) : State :=
  if taken then { s with pc := target s.pc rr } else s

/-- The signed difference does not fit the width. -/
def signedOverflows (r m : BitVec w) : Bool :=
  decide (r.toInt - m.toInt < -2 ^ (w - 1) ∨ 2 ^ (w - 1) ≤ r.toInt - m.toInt)

/-- After a comparison of `r` with `m` every branch of R174's table is taken exactly when its relation holds; BMI and BPL
test the top bit of the wrapped difference, BVS and BVC its signed overflow. -/
def BranchesRelate (r m : BitVec w) (t : State) : Prop :=
  ∀ rr, exec (.bhi rr) t = .next (branched rr t (decide (m.toNat < r.toNat))) ∧
    exec (.bcc rr) t = .next (branched rr t (decide (m.toNat ≤ r.toNat))) ∧
    exec (.bhs rr) t = .next (branched rr t (decide (m.toNat ≤ r.toNat))) ∧
    exec (.beq rr) t = .next (branched rr t (decide (r = m))) ∧
    exec (.bne rr) t = .next (branched rr t (decide (r ≠ m))) ∧
    exec (.bls rr) t = .next (branched rr t (decide (r.toNat ≤ m.toNat))) ∧
    exec (.bcs rr) t = .next (branched rr t (decide (r.toNat < m.toNat))) ∧
    exec (.blo rr) t = .next (branched rr t (decide (r.toNat < m.toNat))) ∧
    exec (.bgt rr) t = .next (branched rr t (decide (m.toInt < r.toInt))) ∧
    exec (.bge rr) t = .next (branched rr t (decide (m.toInt ≤ r.toInt))) ∧
    exec (.ble rr) t = .next (branched rr t (decide (r.toInt ≤ m.toInt))) ∧
    exec (.blt rr) t = .next (branched rr t (decide (r.toInt < m.toInt))) ∧
    exec (.bmi rr) t = .next (branched rr t (r - m).msb) ∧ exec (.bpl rr) t = .next (branched rr t (!(r - m).msb)) ∧
    exec (.bvs rr) t = .next (branched rr t (signedOverflows r m)) ∧
    exec (.bvc rr) t = .next (branched rr t (!signedOverflows r m))

/-- `base` of R179: the condition of the even opcode `$20 + 2n`. -/
def baseCondition (n : Nat) (s : State) : Bool :=
  match n with
  | 0 => true
  | 1 => !(s.flag .c || s.flag .z)
  | 2 => !s.flag .c
  | 3 => !s.flag .z
  | 4 => !s.flag .v
  | 5 => !s.flag .n
  | 6 => !(s.flag .n ^^ s.flag .v)
  | _ => !(s.flag .z || (s.flag .n ^^ s.flag .v))

/-- The branches of `$20` to `$2F` in opcode order: the pair's number, the even opcode's branch, the odd one's. -/
def branchPairs (rr : Byte) : List (Nat × Instr × Instr) :=
  [(0, .bra rr, .brn rr), (1, .bhi rr, .bls rr), (2, .bcc rr, .bcs rr), (3, .bne rr, .beq rr), (4, .bvc rr, .bvs rr),
    (5, .bpl rr, .bmi rr), (6, .bge rr, .blt rr), (7, .bgt rr, .ble rr)]

/-- The two-byte branches by opcode, first names. -/
def branchOpcodes (rr : Byte) : List (Byte × Instr) :=
  [(0x20, .bra rr), (0x21, .brn rr), (0x22, .bhi rr), (0x23, .bls rr), (0x24, .bcc rr), (0x25, .bcs rr),
    (0x26, .bne rr), (0x27, .beq rr), (0x28, .bvc rr), (0x29, .bvs rr), (0x2A, .bpl rr), (0x2B, .bmi rr),
    (0x2C, .bge rr), (0x2D, .blt rr), (0x2E, .bgt rr), (0x2F, .ble rr)]

/-- The nine frame bytes below and at `sp`, high address to low, as R455's table lists them. -/
def frameBytes (returnPc : Word) (s : State) : List (Word × Byte) :=
  [(s.sp, lo returnPc), (s.sp - 1, hi returnPc), (s.sp - 2, lo s.y), (s.sp - 3, hi s.y), (s.sp - 4, lo s.x),
    (s.sp - 5, hi s.x), (s.sp - 6, s.a), (s.sp - 7, s.b), (s.sp - 8, s.ccr)]

/-- The nine addresses of a frame at SP. -/
def frameAt (s : State) : List Word :=
  [s.sp, s.sp - 1, s.sp - 2, s.sp - 3, s.sp - 4, s.sp - 5, s.sp - 6, s.sp - 7, s.sp - 8]

/-- An address is RAM. -/
abbrev IsRam (s : State) (a : Word) : Prop := kindAt s.cfg a = .ram

/-- An address is RAM or ROM: a read gives the stored byte. -/
abbrev IsMem (s : State) (a : Word) : Prop := kindAt s.cfg a = .ram ∨ kindAt s.cfg a = .rom

/-- The frame is stacked in RAM: the nine bytes of R455, no other byte of memory, SP nine lower. -/
def StacksFrame (returnPc : Word) (s t : State) : Prop :=
  (∀ p ∈ frameBytes returnPc s, t.stored p.1 = p.2) ∧ StoresOnly (frameAt s) s t ∧ t.sp = s.sp - 9 ∧ t.io = s.io

/-- What an entry does besides stacking (R455): I is set, X for XIRQ, the inhibit cleared, PC loaded from the vector as
memory stands after the stacking, the machine runs; A, B, X, Y and the other flags keep their values. -/
def GoesToHandler (src : TrapSource) (s t : State) : Prop :=
  t.flag .i = true ∧ t.flag .x = (s.flag .x || decide (src = .xirq)) ∧
    (∀ f, f ≠ .i → f ≠ .x → t.flag f = s.flag f) ∧ t.irqInhibit = false ∧ t.run = .running ∧
    t.pc = cat16 (t.stored (trapVector src)) (t.stored (trapVector src + 1)) ∧
    t.a = s.a ∧ t.b = s.b ∧ t.x = s.x ∧ t.y = s.y ∧ t.lines = s.lines ∧ t.resets = s.resets ∧ t.cfg = s.cfg ∧
    t.script = s.script

/-- A source's two vector bytes are memory. -/
def VectorMapped (src : TrapSource) (s : State) : Prop :=
  IsMem s (trapVector src) ∧ IsMem s (trapVector src + 1)

/-- A full entry: the frame is stacked and the handler entered. -/
def EntersHandler (src : TrapSource) (returnPc : Word) (s t : State) : Prop :=
  StacksFrame returnPc s t ∧ GoesToHandler src s t

/-- What an entry needs of the platform: a RAM stack, mapped vector bytes, memory in its canonical form. -/
def EntryReady (src : TrapSource) (s : State) : Prop :=
  s.Inv ∧ (∀ a ∈ frameAt s, IsRam s a) ∧ VectorMapped src s

/-- The bytes of an instruction stand in memory at PC. -/
def CodeAt (bytes : List Byte) (s : State) : Prop :=
  ∀ k, k < bytes.length →
    IsMem s (s.pc + BitVec.ofNat 16 k) ∧ s.stored (s.pc + BitVec.ofNat 16 k) = bytes.getD k 0

/-- The machine is about to run an instruction: running, no reset asserted, no request accepted, the environment
silent at this boundary. -/
def AboutToRun (s : State) : Prop :=
  envTurn s = s ∧ topReset s = none ∧ s.run = .running ∧ select s = none

/-- Two decimal digits as a packed-BCD byte. -/
def packBcd (tens units : Nat) : Byte := BitVec.ofNat 8 (16 * tens + units)

/-- A maskable source's place in the priority order: the promoted source first, the others by vector address (R442). -/
def rank (promoted : Option Maskable) (m : Maskable) : Nat :=
  if promoted = some m then 65536 else (maskableVector m).toNat

/-- `OMn:OLn` of an output compare as two bits of TCTL1 (R470). -/
def actionPair (tctl1 : Byte) : Compare → Bool × Bool
  | .oc1 => (false, false)
  | .oc2 => (tctl1.getLsbD 7, tctl1.getLsbD 6)
  | .oc3 => (tctl1.getLsbD 5, tctl1.getLsbD 4)
  | .oc4 => (tctl1.getLsbD 3, tctl1.getLsbD 2)
  | .oc5 => (tctl1.getLsbD 1, tctl1.getLsbD 0)

/-- The level a pin takes from an action pair: kept, toggled, low, high (R470). -/
def actedLevel (pair : Bool × Bool) (old : Bool) : Bool :=
  match pair with
  | (false, false) => old
  | (false, true) => !old
  | (true, false) => false
  | (true, true) => true

/-- The pins after the output compares whose bits are set in `which` act (R470, R473): a pin OC1 does not act on acts by its
own pair if its bit is set and is kept otherwise; a pin OC1 acts on takes OC1D where no other compare acts on it or its pair
gives the same level; PA2 to PA0 are kept. Where OC1 and another give one pin different levels nothing is said. -/
def PinsAct (which : Byte) (io : IoRegs) (pins : Byte) : Prop :=
  (∀ n, ¬(which.getLsbD 7 = true ∧ io.oc1m.getLsbD (compareBit n) = true) →
    pins.getLsbD (compareBit n) =
      if which.getLsbD (compareBit n) then actedLevel (actionPair io.tctl1 n) (io.pins.getLsbD (compareBit n))
      else io.pins.getLsbD (compareBit n)) ∧
  (∀ n, which.getLsbD 7 = true → io.oc1m.getLsbD (compareBit n) = true →
    (which.getLsbD (compareBit n) = true → actionPair io.tctl1 n = (false, false) ∨
      actedLevel (actionPair io.tctl1 n) (io.pins.getLsbD (compareBit n)) = io.oc1d.getLsbD (compareBit n)) →
    pins.getLsbD (compareBit n) = io.oc1d.getLsbD (compareBit n)) ∧
  (∀ i, i < 3 → pins.getLsbD i = io.pins.getLsbD i)

/-- The bits `EDGxB` and `EDGxA` of a capture in TCTL2, in each layout (R471, 93_implementation_defined.md U14). That the
source's layout has no pair for IC4 is log entry 11. -/
def edgeBits : Config.Tctl2Layout → Capture → Option (Nat × Nat)
  | .asSource, .ic1 => some (7, 6)
  | .asSource, .ic2 => some (5, 4)
  | .asSource, .ic3 => some (3, 2)
  | .asSource, .ic4 => none
  | .shifted, .ic4 => some (7, 6)
  | .shifted, .ic1 => some (5, 4)
  | .shifted, .ic2 => some (3, 2)
  | .shifted, .ic3 => some (1, 0)

/-- Whether TCTL2 selects an edge of a capture pin: `EDGxA` rising, `EDGxB` falling, both any (R471). -/
def selectsEdge (layout : Config.Tctl2Layout) (tctl2 : Byte) (n : Capture) (e : Edge) : Bool :=
  match edgeBits layout n, e with
  | none, _ => false
  | some p, .falling => tctl2.getLsbD p.1
  | some p, .rising => tctl2.getLsbD p.2

/-- The register of an input capture (R468). -/
def captureReg (io : IoRegs) : Capture → Word
  | .ic1 => io.tic1 | .ic2 => io.tic2 | .ic3 => io.tic3 | .ic4 => io.toc5

/-- The register block after a byte is stored to one of its registers that keeps what it is given: R470, R471, R473, R474,
R468. The bytes of the 16-bit registers are written one by one (log entry 21), and a store to TCTL1 moves no pin (log entry
32). `none` for PORTA, CFORC and TFLG1, whose
stores do something else; a register not named keeps nothing. -/
def storedInto (layout : Config.Tctl2Layout) (n : IoName) (v : Byte) (io : IoRegs) : Option IoRegs :=
  match n with
  | .porta | .cforc | .tflg1 => none
  | .oc1m => some { io with oc1m := v }
  | .oc1d => some { io with oc1d := v }
  | .tctl1 => some { io with tctl1 := v }
  | .tmsk1 => some { io with tmsk1 := v }
  | .tctl2 => some { io with tctl2 := v &&& (match layout with | .asSource => 0xFC | .shifted => 0xFF) }
  | .toc1Hi => some { io with toc1 := cat16 v (lo io.toc1) }
  | .toc1Lo => some { io with toc1 := cat16 (hi io.toc1) v }
  | .toc2Hi => some { io with toc2 := cat16 v (lo io.toc2) }
  | .toc2Lo => some { io with toc2 := cat16 (hi io.toc2) v }
  | .toc3Hi => some { io with toc3 := cat16 v (lo io.toc3) }
  | .toc3Lo => some { io with toc3 := cat16 (hi io.toc3) v }
  | .toc4Hi => some { io with toc4 := cat16 v (lo io.toc4) }
  | .toc4Lo => some { io with toc4 := cat16 (hi io.toc4) v }
  | .ti4o5Hi => some { io with toc5 := cat16 v (lo io.toc5) }
  | .ti4o5Lo => some { io with toc5 := cat16 (hi io.toc5) v }
  | _ => some io

/-- The registers of 60_exceptions.md section 8 that read back what they hold (log entry 6). -/
def readsBack (io : IoRegs) : IoName → Option Byte
  | .oc1m => some io.oc1m
  | .oc1d => some io.oc1d
  | .tctl1 => some io.tctl1
  | .tctl2 => some io.tctl2
  | .tmsk1 => some io.tmsk1
  | .tflg1 => some io.tflg1
  | _ => none

/-- The source's S-record example, R508. -/
def exampleRecord : List Char := "S1130170707172737475767778797A7B7C7D7E7F03".toList

end Sys2Proof.Claims
end

