-- ==== Sys2Proof/Certificates/Slice0/Obligations.lean ====
section
/-! DEFINITION. The statements. A meaning runs on the state after the fetch, so in a statement about an instruction `s.pc`
is PCnext, the address after the instruction (10_state.md R25). -/

open Sys2Proof Sys2Proof.Machine Sys2Proof.Claims

/-! ### Encoding -/

/-- Decoding the encoding of a well-formed instruction gives that instruction (for a second name, the first name's) and
its length, whatever bytes follow. -/
def Obligations.DecodeOfEncode : Prop :=
  ∀ (i : Instr) (rest : List Byte), i.WellFormed →
    decode (encode i ++ rest) = .ok (i.core, (encode i).length)

/-- Pages `$1A` and `$CD`, all encodings (30_encoding.md R106): the eleven rows with their operands, lengths and cycles,
and no other. And words the spec itself writes out decode to the instructions it says they are. -/
def Obligations.SpecTablesDecode : Prop :=
  (∀ h l : Byte,
    (decode [0x1A, 0x83, h, l] = .ok (.cpd (.imm (cat16 h l)), 4) ∧ cycleCount (.cpd (.imm (cat16 h l))) = .exact 5) ∧
    (decode [0x1A, 0x93, l] = .ok (.cpd (.mem (.dir l)), 3) ∧ cycleCount (.cpd (.mem (.dir l))) = .exact 6) ∧
    (decode [0x1A, 0xA3, l] = .ok (.cpd (.mem (.indx l)), 3) ∧ cycleCount (.cpd (.mem (.indx l))) = .exact 7) ∧
    (decode [0x1A, 0xAC, l] = .ok (.cpy (.mem (.indx l)), 3) ∧ cycleCount (.cpy (.mem (.indx l))) = .exact 7) ∧
    (decode [0x1A, 0xB3, h, l] = .ok (.cpd (.mem (.ext (cat16 h l))), 4) ∧
      cycleCount (.cpd (.mem (.ext (cat16 h l)))) = .exact 7) ∧
    (decode [0x1A, 0xEE, l] = .ok (.ldy (.mem (.indx l)), 3) ∧ cycleCount (.ldy (.mem (.indx l))) = .exact 6) ∧
    (decode [0x1A, 0xEF, l] = .ok (.sty (.indx l), 3) ∧ cycleCount (.sty (.indx l)) = .exact 6) ∧
    (decode [0xCD, 0xA3, l] = .ok (.cpd (.mem (.indy l)), 3) ∧ cycleCount (.cpd (.mem (.indy l))) = .exact 7) ∧
    (decode [0xCD, 0xAC, l] = .ok (.cpx (.mem (.indy l)), 3) ∧ cycleCount (.cpx (.mem (.indy l))) = .exact 7) ∧
    (decode [0xCD, 0xEE, l] = .ok (.ldx (.mem (.indy l)), 3) ∧ cycleCount (.ldx (.mem (.indy l))) = .exact 6) ∧
    (decode [0xCD, 0xEF, l] = .ok (.stx (.indy l), 3) ∧ cycleCount (.stx (.indy l)) = .exact 6)) ∧
  (∀ (op : Byte) (rest : List Byte),
    (op ∉ ([0x83, 0x93, 0xA3, 0xAC, 0xB3, 0xEE, 0xEF] : List Byte) →
      decode (0x1A :: op :: rest) = .error (.illegalOpcode .page1A op)) ∧
    (op ∉ ([0xA3, 0xAC, 0xEE, 0xEF] : List Byte) →
      decode (0xCD :: op :: rest) = .error (.illegalOpcode .pageCD op))) ∧
  decode [0x7E, 0x35, 0xFF] = .ok (.jmp (.ext 0x35FF), 3) ∧
  decode [0xB7, 0x10, 0x23] = .ok (.staa (.ext 0x1023), 3) ∧
  decode [0x1A, 0x83, 0x17, 0x70] = .ok (.cpd (.imm 0x1770), 4) ∧
  decode [0xBD, 0xC5, 0x00] = .ok (.jsr (.ext 0xC500), 3) ∧
  decode [0x86, 0x55] = .ok (.ldaa (.imm 0x55), 2) ∧
  decode [0x18, 0xA6, 0x10] = .ok (.ldaa (.mem (.indy 0x10)), 3) ∧
  decode [0xFC, 0x00, 0xA2] = .ok (.ldd (.mem (.ext 0x00A2)), 3) ∧
  decode [0x18, 0x1E, 0x00, 0x01, 0x7F] = .ok (.brset (.indy 0x00) 0x01 0x7F, 5) ∧
  decode [0x18, 0x8F] = .ok (.xgdy, 2) ∧
  decode [0x3B] = .ok (.rti, 1)

/-- The pairs with no row: the 20 holes of page 0, and after each prebyte every opcode but the 64, 7 and 4 that R105 and
R106 list. -/
def Obligations.IllegalEncodings : Prop :=
  (∀ (op : Byte) (rest : List Byte), prebytePage op = none →
    (decode (op :: rest) = .error (.illegalOpcode .page0 op) ↔
      op ∈ ([0x41, 0x42, 0x45, 0x4B, 0x4E, 0x51, 0x52, 0x55, 0x5B, 0x5E, 0x61, 0x62, 0x65, 0x6B, 0x71, 0x72, 0x75, 0x7B,
        0x87, 0xC7] : List Byte))) ∧
  (∀ (op : Byte) (rest : List Byte),
    (decode (0x1A :: op :: rest) = .error (.illegalOpcode .page1A op) ↔
      op ∉ ([0x83, 0x93, 0xA3, 0xAC, 0xB3, 0xEE, 0xEF] : List Byte))) ∧
  (∀ (op : Byte) (rest : List Byte),
    (decode (0xCD :: op :: rest) = .error (.illegalOpcode .pageCD op) ↔
      op ∉ ([0xA3, 0xAC, 0xEE, 0xEF] : List Byte))) ∧
  (∀ (op : Byte) (rest : List Byte),
    (decode (0x18 :: op :: rest) = .error (.illegalOpcode .page18 op) ↔
      op ∉ ([0x08, 0x09, 0x1C, 0x1D, 0x1E, 0x1F, 0x30, 0x35, 0x38, 0x3A, 0x3C, 0x60, 0x63, 0x64, 0x66, 0x67, 0x68,
        0x69, 0x6A, 0x6C, 0x6D, 0x6E, 0x6F, 0x8C, 0x8F, 0x9C, 0xA0, 0xA1, 0xA2, 0xA3, 0xA4, 0xA5, 0xA6, 0xA7, 0xA8,
        0xA9, 0xAA, 0xAB, 0xAC, 0xAD, 0xAE, 0xAF, 0xBC, 0xCE, 0xDE, 0xDF, 0xE0, 0xE1, 0xE2, 0xE3, 0xE4, 0xE5, 0xE6,
        0xE7, 0xE8, 0xE9, 0xEA, 0xEB, 0xEC, 0xED, 0xEE, 0xEF, 0xFE, 0xFF] : List Byte)))

/-! ### The step -/

/-- Where no reset is asserted, the machine runs and no request is accepted, and the bytes fetched decode to an
instruction, the step is that instruction's meaning on the state after the fetch, the inhibit cleared. -/
def Obligations.StepRunsDecoded : Prop :=
  ∀ (s u : State) (i : Instr) (n : Nat), envTurn s = u → topReset u = none → u.run = .running → select u = none →
    decode (fetchInstr (u.setIrqInhibit false)).1 = .ok (i, n) →
    step s = exec i (fetchInstr (u.setIrqInhibit false)).2

/-- Where the bytes of a well-formed instruction stand in memory at PC, the step is that instruction's meaning on the
state that differs only in PC, moved past them, and in the inhibit, cleared. -/
def Obligations.StepRunsStoredInstruction : Prop :=
  ∀ (s : State) (i : Instr), i.WellFormed → AboutToRun s → CodeAt (encode i) s →
    step s = exec i.core { s with irqInhibit := false, pc := s.pc + BitVec.ofNat 16 (encode i).length }

/-- Bytes that are no instruction take the illegal opcode trap, with the return address ILLOP_RETURN_PC says. -/
def Obligations.IllegalBytesTrap : Prop :=
  ∀ (s : State) (bytes : List Byte) (p : Page) (op : Byte), AboutToRun s → CodeAt bytes s → EntryReady .ill s →
    decode bytes = .error (.illegalOpcode p op) → bytes.length = (if p = .page0 then 1 else 2) →
    ∃ t, step s = .next t ∧
      EntersHandler .ill
        (if s.cfg.illopReturnPc = .opcodeAddress then s.pc else s.pc + BitVec.ofNat 16 bytes.length) s t

/-- No step faults and none is refused, from any state. -/
def Obligations.EveryStepAnswersNext : Prop := ∀ s : State, ∃ t, step s = .next t

/-- Every step keeps the invariant: memory in its canonical form, the absent bits of TCTL2 zero. -/
def Obligations.StepKeepsInvariant : Prop := ∀ s t : State, s.Inv → step s = .next t → t.Inv

/-- The state after reset meets the invariant. -/
def Obligations.ResetMeetsInvariant : Prop := State.reset.Inv

/-- What reset leaves that the spec gives: S = X = I = 1, running, no inhibit, local enables 0, and PC the word at the
reset vector of the (empty) memory. The last clause, that no maskable source is requested, is the model's choice: R46
leaves `pending` to the environment, and State.reset starts with an environment that asserts nothing (log entries 14 and
33). The values of A, B, X, Y, SP, H, N, Z, V, C are the model's choice (log entry 2)
and nothing is said of them. -/
def Obligations.ResetState : Prop :=
  State.reset.flag .s = true ∧ State.reset.flag .x = true ∧ State.reset.flag .i = true ∧
  State.reset.run = .running ∧ State.reset.irqInhibit = false ∧ State.reset.io.tmsk1 = 0 ∧
  State.reset.pc = cat16 (State.reset.stored 0xFFFE) (State.reset.stored 0xFFFF) ∧
  (∀ m, requested State.reset m = false)

/-- The order of the cases of Step: reset, hung, waiting, stopped, an accepted request, an instruction. -/
def Obligations.StepOrder : Prop :=
  ∀ (s u : State), envTurn s = u →
    (∀ c, topReset u = some c → step s = .next (resetSequence c u)) ∧
    (topReset u = none → u.run = .hung → step s = .next u) ∧
    (topReset u = none → u.run = .waiting → step s = .next (waitStep u)) ∧
    (topReset u = none → u.run = .stopped → step s = .next (stopStep u)) ∧
    (topReset u = none → u.run = .running → ∀ src, select u = some src →
      step s = .next (trapEntry src u.pc true u)) ∧
    (topReset u = none → u.run = .running → select u = none → step s = runInstr (u.setIrqInhibit false))

/-- Which request is accepted: XIRQ exactly while it is requested and X = 0; otherwise, while I = 0 and the inhibit is
clear, the requested maskable source whose vector is highest, the promoted one above all. -/
def Obligations.SelectPriority : Prop :=
  ∀ s : State,
    (select s = some .xirq ↔ Line.xirq ∈ s.lines ∧ s.flag .x = false) ∧
    (∀ m, select s = some (.maskable m) ↔
      ¬(Line.xirq ∈ s.lines ∧ s.flag .x = false) ∧ s.flag .i = false ∧ s.irqInhibit = false ∧ requested s m = true ∧
        ∀ k, requested s k = true → rank s.cfg.promotedSource k ≤ rank s.cfg.promotedSource m) ∧
    select s ≠ some .swi ∧ select s ≠ some .ill

/-- A timer source is pending exactly while its bit is 1 in both TFLG1 and TMSK1; any other exactly while its line is
asserted. -/
def Obligations.PendingSources : Prop :=
  ∀ s : State,
    requested s .toc1 = (s.io.tflg1.getLsbD 7 && s.io.tmsk1.getLsbD 7) ∧
    requested s .toc2 = (s.io.tflg1.getLsbD 6 && s.io.tmsk1.getLsbD 6) ∧
    requested s .toc3 = (s.io.tflg1.getLsbD 5 && s.io.tmsk1.getLsbD 5) ∧
    requested s .toc4 = (s.io.tflg1.getLsbD 4 && s.io.tmsk1.getLsbD 4) ∧
    requested s .toc5 = (s.io.tflg1.getLsbD 3 && s.io.tmsk1.getLsbD 3) ∧
    requested s .tic1 = (s.io.tflg1.getLsbD 2 && s.io.tmsk1.getLsbD 2) ∧
    requested s .tic2 = (s.io.tflg1.getLsbD 1 && s.io.tmsk1.getLsbD 1) ∧
    requested s .tic3 = (s.io.tflg1.getLsbD 0 && s.io.tmsk1.getLsbD 0) ∧
    (requested s .irq = true ↔ Line.irq ∈ s.lines) ∧ (requested s .rtii = true ↔ Line.rtii ∈ s.lines) ∧
    (requested s .tof = true ↔ Line.tof ∈ s.lines) ∧ (requested s .paov = true ↔ Line.paov ∈ s.lines) ∧
    (requested s .paie = true ↔ Line.paie ∈ s.lines) ∧ (requested s .spi = true ↔ Line.spi ∈ s.lines) ∧
    (requested s .sci = true ↔ Line.sci ∈ s.lines)

/-- An accepted request is entered in full: the frame with the address of the next instruction, the masks, the vector;
no instruction runs, and the request stays pending. -/
def Obligations.InterruptEntry : Prop :=
  ∀ (s : State) (src : TrapSource), envTurn s = s → topReset s = none → s.run = .running → select s = some src →
    EntryReady src s → ∃ t, step s = .next t ∧ EntersHandler src s.pc s t

/-- A reset: RESET outranks CMF, CMF outranks COP; the masks are set, the machine runs, PC is loaded from the reset's own
vector, nothing is stored, the local enables of the timer are 0, the pending lines stay. That only the reset performed
stops being asserted is the model's reading (log entry 12). -/
def Obligations.ResetEvent : Prop :=
  ∀ (s u : State) (c : ResetCause), envTurn s = u → c ∈ u.resets →
    (c ≠ .reset → ResetCause.reset ∉ u.resets) → (c = .cop → ResetCause.cmf ∉ u.resets) →
    IsMem u (resetVector c) → IsMem u (resetVector c + 1) →
    ∃ t, step s = .next t ∧ t.flag .s = true ∧ t.flag .x = true ∧ t.flag .i = true ∧ t.run = .running ∧
      t.irqInhibit = false ∧ t.pc = cat16 (u.stored (resetVector c)) (u.stored (resetVector c + 1)) ∧ t.mem = u.mem ∧
      t.io.tmsk1 = 0 ∧ t.lines = u.lines ∧ t.cfg = u.cfg ∧ (∀ d, d ∈ t.resets ↔ d ∈ u.resets ∧ d ≠ c)

/-- A waiting machine: a request that would be accepted, the inhibit not counted, wakes it into the handler with nothing
stacked again; otherwise nothing changes. -/
def Obligations.WaitingMachine : Prop :=
  ∀ (s u : State), envTurn s = u → topReset u = none → u.run = .waiting →
    (∀ src, select { u with irqInhibit := false } = some src → VectorMapped src u →
      ∃ t, step s = .next t ∧ NoAccess u t ∧ t.sp = u.sp ∧ GoesToHandler src u t) ∧
    (select { u with irqInhibit := false } = none → step s = .next u)

/-- A stopped machine: XIRQ with X = 0 is taken, XIRQ with X = 1 only restarts it, an unmasked IRQ is taken, and nothing
else ends the stop; the timer stands still, so the environment's turn leaves the register block alone. That a requested
XIRQ is looked at before IRQ is log entry 20. -/
def Obligations.StoppedMachine : Prop :=
  ∀ (s u : State), envTurn s = u → topReset u = none → u.run = .stopped →
    u.io = s.io ∧
    (Line.xirq ∈ u.lines → u.flag .x = false → EntryReady .xirq u →
      ∃ t, step s = .next t ∧ EntersHandler .xirq u.pc u t) ∧
    (Line.xirq ∈ u.lines → u.flag .x = true → step s = .next { u with run := .running }) ∧
    (Line.xirq ∉ u.lines → Line.irq ∈ u.lines → u.flag .i = false → EntryReady (.maskable .irq) u →
      ∃ t, step s = .next t ∧ EntersHandler (.maskable .irq) u.pc u t) ∧
    (Line.xirq ∉ u.lines → ¬(Line.irq ∈ u.lines ∧ u.flag .i = false) → step s = .next u)

/-- While the inhibit is set no maskable request is accepted: unless an unmasked XIRQ is requested the step runs an
instruction, and it runs with the inhibit cleared. -/
def Obligations.InhibitHoldsOneInstruction : Prop :=
  ∀ s : State, envTurn s = s → topReset s = none → s.run = .running → s.irqInhibit = true →
    ¬(Line.xirq ∈ s.lines ∧ s.flag .x = false) → step s = runInstr { s with irqInhibit := false }

/-! ### The flag function of the byte additions -/

/-- NZ8 and ADD8 at every operand: the wrapped result, H the carry from bit 3, C the unsigned overflow, V by the signs'
rule, which is the signed overflow, N and Z of the result (10_state.md R33, R35). -/
def Obligations.AddByteFlags : Prop :=
  (∀ r : Byte, flagN r = r.getLsbD 7 ∧ flagZ r = decide (r = 0)) ∧
  (∀ (a m : Byte) (c : Bool),
    (addFlags a m c).r.toNat = (a.toNat + m.toNat + c.toNat) % 256 ∧
    addHalf a m c = decide (15 < a.toNat % 16 + m.toNat % 16 + c.toNat) ∧
    (addFlags a m c).c = decide (255 < a.toNat + m.toNat + c.toNat) ∧
    (addFlags a m c).v = (a.getLsbD 7 == m.getLsbD 7 && (addFlags a m c).r.getLsbD 7 != a.getLsbD 7) ∧
    (addFlags a m c).v = decide (a.toInt + m.toInt + c.toNat < -128 ∨ 127 < a.toInt + m.toInt + c.toNat) ∧
    (addFlags a m c).n = (addFlags a m c).r.getLsbD 7 ∧ (addFlags a m c).z = decide ((addFlags a m c).r = 0))

/-! ### Arithmetic and logic: results, flags, frames -/

/-- ABA, ADDA, ADDB, ADCA, ADCB: the sum in the accumulator, H N Z V C from it, nothing else changed. -/
def Obligations.AddsBytes : Prop :=
  ∀ (s : State) (m : Src8),
    (∃ t, exec .aba s = .next t ∧ IsSum s.a s.b false t.a t ∧ IsHalf s.a s.b false t ∧
      Keeps [.a] [.h, .n, .z, .v, .c] s t ∧ NoAccess s t) ∧
    (∃ t, exec (.adda m) s = .next t ∧ IsSum s.a (operand8 m s).1 false t.a t ∧ IsHalf s.a (operand8 m s).1 false t ∧
      Keeps [.a] [.h, .n, .z, .v, .c] s t ∧ Reads8 m s t) ∧
    (∃ t, exec (.addb m) s = .next t ∧ IsSum s.b (operand8 m s).1 false t.b t ∧ IsHalf s.b (operand8 m s).1 false t ∧
      Keeps [.b] [.h, .n, .z, .v, .c] s t ∧ Reads8 m s t) ∧
    (∃ t, exec (.adca m) s = .next t ∧ IsSum s.a (operand8 m s).1 (s.flag .c) t.a t ∧
      IsHalf s.a (operand8 m s).1 (s.flag .c) t ∧ Keeps [.a] [.h, .n, .z, .v, .c] s t ∧ Reads8 m s t) ∧
    (∃ t, exec (.adcb m) s = .next t ∧ IsSum s.b (operand8 m s).1 (s.flag .c) t.b t ∧
      IsHalf s.b (operand8 m s).1 (s.flag .c) t ∧ Keeps [.b] [.h, .n, .z, .v, .c] s t ∧ Reads8 m s t)

/-- SBA, SUBA, SUBB, SBCA, SBCB: the difference in the accumulator, N Z V C from it, nothing else changed. CBA, CMPA,
CMPB: the flags of the difference and nothing else. -/
def Obligations.SubtractsAndComparesBytes : Prop :=
  ∀ (s : State) (m : Src8),
    (∃ t, exec .sba s = .next t ∧ IsDifference s.a s.b false t.a t ∧ Keeps [.a] [.n, .z, .v, .c] s t ∧ NoAccess s t) ∧
    (∃ t, exec (.suba m) s = .next t ∧ IsDifference s.a (operand8 m s).1 false t.a t ∧
      Keeps [.a] [.n, .z, .v, .c] s t ∧ Reads8 m s t) ∧
    (∃ t, exec (.subb m) s = .next t ∧ IsDifference s.b (operand8 m s).1 false t.b t ∧
      Keeps [.b] [.n, .z, .v, .c] s t ∧ Reads8 m s t) ∧
    (∃ t, exec (.sbca m) s = .next t ∧ IsDifference s.a (operand8 m s).1 (s.flag .c) t.a t ∧
      Keeps [.a] [.n, .z, .v, .c] s t ∧ Reads8 m s t) ∧
    (∃ t, exec (.sbcb m) s = .next t ∧ IsDifference s.b (operand8 m s).1 (s.flag .c) t.b t ∧
      Keeps [.b] [.n, .z, .v, .c] s t ∧ Reads8 m s t) ∧
    (∃ t r, exec .cba s = .next t ∧ IsDifference s.a s.b false r t ∧ Keeps [] [.n, .z, .v, .c] s t ∧ NoAccess s t) ∧
    (∃ t r, exec (.cmpa m) s = .next t ∧ IsDifference s.a (operand8 m s).1 false r t ∧
      Keeps [] [.n, .z, .v, .c] s t ∧ Reads8 m s t) ∧
    (∃ t r, exec (.cmpb m) s = .next t ∧ IsDifference s.b (operand8 m s).1 false r t ∧
      Keeps [] [.n, .z, .v, .c] s t ∧ Reads8 m s t)

/-- ADDD, SUBD: the 16-bit sum or difference in D; CPD, CPX, CPY: the flags of the difference only. -/
def Obligations.WordArithmetic : Prop :=
  ∀ (s : State) (m : Src16),
    (∃ t, exec (.addd m) s = .next t ∧ IsSum s.d (operand16 m s).1 false t.d t ∧
      Keeps [.a, .b] [.n, .z, .v, .c] s t ∧ Reads16 m s t) ∧
    (∃ t, exec (.subd m) s = .next t ∧ IsDifference s.d (operand16 m s).1 false t.d t ∧
      Keeps [.a, .b] [.n, .z, .v, .c] s t ∧ Reads16 m s t) ∧
    (∃ t r, exec (.cpd m) s = .next t ∧ IsDifference s.d (operand16 m s).1 false r t ∧
      Keeps [] [.n, .z, .v, .c] s t ∧ Reads16 m s t) ∧
    (∃ t r, exec (.cpx m) s = .next t ∧ IsDifference s.x (operand16 m s).1 false r t ∧
      Keeps [] [.n, .z, .v, .c] s t ∧ Reads16 m s t) ∧
    (∃ t r, exec (.cpy m) s = .next t ∧ IsDifference s.y (operand16 m s).1 false r t ∧
      Keeps [] [.n, .z, .v, .c] s t ∧ Reads16 m s t)

/-- ANDA, ANDB, EORA, EORB, ORAA, ORAB: the bitwise result in the accumulator, N and Z from it, V cleared; BITA, BITB: the
flags of the AND only. -/
def Obligations.ByteLogic : Prop :=
  ∀ (s : State) (m : Src8),
    (∃ t, exec (.anda m) s = .next t ∧ t.a = s.a &&& (operand8 m s).1 ∧ LogicFlags t.a t ∧
      Keeps [.a] [.n, .z, .v] s t ∧ Reads8 m s t) ∧
    (∃ t, exec (.andb m) s = .next t ∧ t.b = s.b &&& (operand8 m s).1 ∧ LogicFlags t.b t ∧
      Keeps [.b] [.n, .z, .v] s t ∧ Reads8 m s t) ∧
    (∃ t, exec (.eora m) s = .next t ∧ t.a = s.a ^^^ (operand8 m s).1 ∧ LogicFlags t.a t ∧
      Keeps [.a] [.n, .z, .v] s t ∧ Reads8 m s t) ∧
    (∃ t, exec (.eorb m) s = .next t ∧ t.b = s.b ^^^ (operand8 m s).1 ∧ LogicFlags t.b t ∧
      Keeps [.b] [.n, .z, .v] s t ∧ Reads8 m s t) ∧
    (∃ t, exec (.oraa m) s = .next t ∧ t.a = s.a ||| (operand8 m s).1 ∧ LogicFlags t.a t ∧
      Keeps [.a] [.n, .z, .v] s t ∧ Reads8 m s t) ∧
    (∃ t, exec (.orab m) s = .next t ∧ t.b = s.b ||| (operand8 m s).1 ∧ LogicFlags t.b t ∧
      Keeps [.b] [.n, .z, .v] s t ∧ Reads8 m s t) ∧
    (∃ t, exec (.bita m) s = .next t ∧ LogicFlags (s.a &&& (operand8 m s).1) t ∧ Keeps [] [.n, .z, .v] s t ∧
      Reads8 m s t) ∧
    (∃ t, exec (.bitb m) s = .next t ∧ LogicFlags (s.b &&& (operand8 m s).1) t ∧ Keeps [] [.n, .z, .v] s t ∧
      Reads8 m s t)

/-- LDAA, LDAB, LDD, LDS, LDX, LDY: the operand in the register (an indexed address uses the old X or Y), N and Z from it,
V cleared. -/
def Obligations.Loads : Prop :=
  ∀ (s : State) (m : Src8) (w : Src16),
    (∃ t, exec (.ldaa m) s = .next t ∧ t.a = (operand8 m s).1 ∧ LogicFlags t.a t ∧ Keeps [.a] [.n, .z, .v] s t ∧
      Reads8 m s t) ∧
    (∃ t, exec (.ldab m) s = .next t ∧ t.b = (operand8 m s).1 ∧ LogicFlags t.b t ∧ Keeps [.b] [.n, .z, .v] s t ∧
      Reads8 m s t) ∧
    (∃ t, exec (.ldd w) s = .next t ∧ t.d = (operand16 w s).1 ∧ LogicFlags t.d t ∧
      Keeps [.a, .b] [.n, .z, .v] s t ∧ Reads16 w s t) ∧
    (∃ t, exec (.lds w) s = .next t ∧ t.sp = (operand16 w s).1 ∧ LogicFlags t.sp t ∧
      Keeps [.sp] [.n, .z, .v] s t ∧ Reads16 w s t) ∧
    (∃ t, exec (.ldx w) s = .next t ∧ t.x = (operand16 w s).1 ∧ LogicFlags t.x t ∧ Keeps [.x] [.n, .z, .v] s t ∧
      Reads16 w s t) ∧
    (∃ t, exec (.ldy w) s = .next t ∧ t.y = (operand16 w s).1 ∧ LogicFlags t.y t ∧ Keeps [.y] [.n, .z, .v] s t ∧
      Reads16 w s t)

/-- STAA, STAB, STD, STS, STX, STY: the register written at the effective address, high byte first, the destination not
read, N and Z of the value stored, V cleared. -/
def Obligations.Stores : Prop :=
  ∀ (s : State) (e : Ea),
    (∃ t, exec (.staa e) s = .next t ∧ Puts (eaAddr e s) s.a s t ∧ LogicFlags s.a t ∧ Keeps [] [.n, .z, .v] s t) ∧
    (∃ t, exec (.stab e) s = .next t ∧ Puts (eaAddr e s) s.b s t ∧ LogicFlags s.b t ∧ Keeps [] [.n, .z, .v] s t) ∧
    (∃ t, exec (.std e) s = .next t ∧ Puts16 (eaAddr e s) s.d s t ∧ LogicFlags s.d t ∧ Keeps [] [.n, .z, .v] s t) ∧
    (∃ t, exec (.sts e) s = .next t ∧ Puts16 (eaAddr e s) s.sp s t ∧ LogicFlags s.sp t ∧ Keeps [] [.n, .z, .v] s t) ∧
    (∃ t, exec (.stx e) s = .next t ∧ Puts16 (eaAddr e s) s.x s t ∧ LogicFlags s.x t ∧ Keeps [] [.n, .z, .v] s t) ∧
    (∃ t, exec (.sty e) s = .next t ∧ Puts16 (eaAddr e s) s.y s t ∧ LogicFlags s.y t ∧ Keeps [] [.n, .z, .v] s t)

/-- The shifts and rotates of A, B and D, second names included: bit by bit, with what enters and what leaves. -/
def Obligations.RegisterShifts : Prop :=
  ∀ s : State,
    (∀ i ∈ [Instr.asla, .lsla], ∃ t, exec i s = .next t ∧ IsShiftLeft s.a false t.a t ∧
      Keeps [.a] [.n, .z, .v, .c] s t ∧ NoAccess s t) ∧
    (∀ i ∈ [Instr.aslb, .lslb], ∃ t, exec i s = .next t ∧ IsShiftLeft s.b false t.b t ∧
      Keeps [.b] [.n, .z, .v, .c] s t ∧ NoAccess s t) ∧
    (∀ i ∈ [Instr.asld, .lsld], ∃ t, exec i s = .next t ∧ IsShiftLeft s.d false t.d t ∧
      Keeps [.a, .b] [.n, .z, .v, .c] s t ∧ NoAccess s t) ∧
    (∃ t, exec .asra s = .next t ∧ IsShiftRight s.a (s.a.getLsbD 7) t.a t ∧ Keeps [.a] [.n, .z, .v, .c] s t ∧
      NoAccess s t) ∧
    (∃ t, exec .asrb s = .next t ∧ IsShiftRight s.b (s.b.getLsbD 7) t.b t ∧ Keeps [.b] [.n, .z, .v, .c] s t ∧
      NoAccess s t) ∧
    (∃ t, exec .lsra s = .next t ∧ IsShiftRight s.a false t.a t ∧ Keeps [.a] [.n, .z, .v, .c] s t ∧ NoAccess s t) ∧
    (∃ t, exec .lsrb s = .next t ∧ IsShiftRight s.b false t.b t ∧ Keeps [.b] [.n, .z, .v, .c] s t ∧ NoAccess s t) ∧
    (∃ t, exec .lsrd s = .next t ∧ IsShiftRight s.d false t.d t ∧ Keeps [.a, .b] [.n, .z, .v, .c] s t ∧
      NoAccess s t) ∧
    (∃ t, exec .rola s = .next t ∧ IsShiftLeft s.a (s.flag .c) t.a t ∧ Keeps [.a] [.n, .z, .v, .c] s t ∧
      NoAccess s t) ∧
    (∃ t, exec .rolb s = .next t ∧ IsShiftLeft s.b (s.flag .c) t.b t ∧ Keeps [.b] [.n, .z, .v, .c] s t ∧
      NoAccess s t) ∧
    (∃ t, exec .rora s = .next t ∧ IsShiftRight s.a (s.flag .c) t.a t ∧ Keeps [.a] [.n, .z, .v, .c] s t ∧
      NoAccess s t) ∧
    (∃ t, exec .rorb s = .next t ∧ IsShiftRight s.b (s.flag .c) t.b t ∧ Keeps [.b] [.n, .z, .v, .c] s t ∧
      NoAccess s t)

/-- The shifts and rotates of a memory byte, LSL included: the byte is read, the shifted byte written back at the same
address, no other byte of memory changes. -/
def Obligations.MemoryShifts : Prop :=
  ∀ (s : State) (e : Ea),
    (∀ i ∈ [Instr.asl e, .lsl e], ∃ t r, exec i s = .next t ∧ IsShiftLeft (memRead (eaAddr e s) s).1 false r t ∧
      Rewrites (eaAddr e s) r s t ∧ Keeps [] [.n, .z, .v, .c] s t) ∧
    (∃ t r, exec (.asr e) s = .next t ∧
      IsShiftRight (memRead (eaAddr e s) s).1 ((memRead (eaAddr e s) s).1.getLsbD 7) r t ∧
      Rewrites (eaAddr e s) r s t ∧ Keeps [] [.n, .z, .v, .c] s t) ∧
    (∃ t r, exec (.lsr e) s = .next t ∧ IsShiftRight (memRead (eaAddr e s) s).1 false r t ∧
      Rewrites (eaAddr e s) r s t ∧ Keeps [] [.n, .z, .v, .c] s t) ∧
    (∃ t r, exec (.rol e) s = .next t ∧ IsShiftLeft (memRead (eaAddr e s) s).1 (s.flag .c) r t ∧
      Rewrites (eaAddr e s) r s t ∧ Keeps [] [.n, .z, .v, .c] s t) ∧
    (∃ t r, exec (.ror e) s = .next t ∧ IsShiftRight (memRead (eaAddr e s) s).1 (s.flag .c) r t ∧
      Rewrites (eaAddr e s) r s t ∧ Keeps [] [.n, .z, .v, .c] s t)

/-- NEG, COM, CLR, INC, DEC and TST of an accumulator: the result, the flags the rule writes, C kept by INC and DEC. -/
def Obligations.RegisterUnary : Prop :=
  ∀ s : State,
    (∃ t, exec .nega s = .next t ∧ IsDifference 0 s.a false t.a t ∧ Keeps [.a] [.n, .z, .v, .c] s t ∧ NoAccess s t) ∧
    (∃ t, exec .negb s = .next t ∧ IsDifference 0 s.b false t.b t ∧ Keeps [.b] [.n, .z, .v, .c] s t ∧ NoAccess s t) ∧
    (∃ t, exec .coma s = .next t ∧ t.a = ~~~s.a ∧ LogicFlags t.a t ∧ t.flag .c = true ∧
      Keeps [.a] [.n, .z, .v, .c] s t ∧ NoAccess s t) ∧
    (∃ t, exec .comb s = .next t ∧ t.b = ~~~s.b ∧ LogicFlags t.b t ∧ t.flag .c = true ∧
      Keeps [.b] [.n, .z, .v, .c] s t ∧ NoAccess s t) ∧
    (∃ t, exec .clra s = .next t ∧ t.a = 0 ∧ LogicFlags t.a t ∧ t.flag .c = false ∧
      Keeps [.a] [.n, .z, .v, .c] s t ∧ NoAccess s t) ∧
    (∃ t, exec .clrb s = .next t ∧ t.b = 0 ∧ LogicFlags t.b t ∧ t.flag .c = false ∧
      Keeps [.b] [.n, .z, .v, .c] s t ∧ NoAccess s t) ∧
    (∃ t, exec .inca s = .next t ∧ t.a.toNat = (s.a.toNat + 1) % 256 ∧ NZof t.a t ∧ t.flag .v = decide (s.a = 0x7F) ∧
      Keeps [.a] [.n, .z, .v] s t ∧ NoAccess s t) ∧
    (∃ t, exec .incb s = .next t ∧ t.b.toNat = (s.b.toNat + 1) % 256 ∧ NZof t.b t ∧ t.flag .v = decide (s.b = 0x7F) ∧
      Keeps [.b] [.n, .z, .v] s t ∧ NoAccess s t) ∧
    (∃ t, exec .deca s = .next t ∧ t.a.toNat = (s.a.toNat + 255) % 256 ∧ NZof t.a t ∧
      t.flag .v = decide (s.a = 0x80) ∧ Keeps [.a] [.n, .z, .v] s t ∧ NoAccess s t) ∧
    (∃ t, exec .decb s = .next t ∧ t.b.toNat = (s.b.toNat + 255) % 256 ∧ NZof t.b t ∧
      t.flag .v = decide (s.b = 0x80) ∧ Keeps [.b] [.n, .z, .v] s t ∧ NoAccess s t) ∧
    (∃ t, exec .tsta s = .next t ∧ LogicFlags s.a t ∧ t.flag .c = false ∧ Keeps [] [.n, .z, .v, .c] s t ∧
      NoAccess s t) ∧
    (∃ t, exec .tstb s = .next t ∧ LogicFlags s.b t ∧ t.flag .c = false ∧ Keeps [] [.n, .z, .v, .c] s t ∧
      NoAccess s t)

/-- NEG, COM, CLR, INC and DEC of a memory byte read it and write the result back (CLR reads too); TST reads and writes
nothing. -/
def Obligations.MemoryUnary : Prop :=
  ∀ (s : State) (e : Ea),
    (∃ t r, exec (.neg e) s = .next t ∧ IsDifference 0 (memRead (eaAddr e s) s).1 false r t ∧
      Rewrites (eaAddr e s) r s t ∧ Keeps [] [.n, .z, .v, .c] s t) ∧
    (∃ t r, exec (.com e) s = .next t ∧ r = ~~~(memRead (eaAddr e s) s).1 ∧ LogicFlags r t ∧ t.flag .c = true ∧
      Rewrites (eaAddr e s) r s t ∧ Keeps [] [.n, .z, .v, .c] s t) ∧
    (∃ t, exec (.clr e) s = .next t ∧ LogicFlags (0 : Byte) t ∧ t.flag .c = false ∧ Rewrites (eaAddr e s) 0 s t ∧
      Keeps [] [.n, .z, .v, .c] s t) ∧
    (∃ t r, exec (.inc e) s = .next t ∧ r.toNat = ((memRead (eaAddr e s) s).1.toNat + 1) % 256 ∧ NZof r t ∧
      t.flag .v = decide ((memRead (eaAddr e s) s).1 = 0x7F) ∧ Rewrites (eaAddr e s) r s t ∧
      Keeps [] [.n, .z, .v] s t) ∧
    (∃ t r, exec (.dec e) s = .next t ∧ r.toNat = ((memRead (eaAddr e s) s).1.toNat + 255) % 256 ∧ NZof r t ∧
      t.flag .v = decide ((memRead (eaAddr e s) s).1 = 0x80) ∧ Rewrites (eaAddr e s) r s t ∧
      Keeps [] [.n, .z, .v] s t) ∧
    (∃ t, exec (.tst e) s = .next t ∧ LogicFlags (memRead (eaAddr e s) s).1 t ∧ t.flag .c = false ∧ ReadsByte e s t ∧
      Keeps [] [.n, .z, .v, .c] s t)

/-- INX, INY, DEX, DEY write only Z; INS, DES, ABX, ABY no flag; ABX and ABY add B unsigned; all wrap modulo 65536. -/
def Obligations.IndexArithmetic : Prop :=
  ∀ s : State,
    (∃ t, exec .inx s = .next t ∧ t.x.toNat = (s.x.toNat + 1) % 65536 ∧ t.flag .z = decide (t.x = 0) ∧
      Keeps [.x] [.z] s t ∧ NoAccess s t) ∧
    (∃ t, exec .iny s = .next t ∧ t.y.toNat = (s.y.toNat + 1) % 65536 ∧ t.flag .z = decide (t.y = 0) ∧
      Keeps [.y] [.z] s t ∧ NoAccess s t) ∧
    (∃ t, exec .dex s = .next t ∧ t.x.toNat = (s.x.toNat + 65535) % 65536 ∧ t.flag .z = decide (t.x = 0) ∧
      Keeps [.x] [.z] s t ∧ NoAccess s t) ∧
    (∃ t, exec .dey s = .next t ∧ t.y.toNat = (s.y.toNat + 65535) % 65536 ∧ t.flag .z = decide (t.y = 0) ∧
      Keeps [.y] [.z] s t ∧ NoAccess s t) ∧
    (∃ t, exec .ins s = .next t ∧ t.sp.toNat = (s.sp.toNat + 1) % 65536 ∧ Keeps [.sp] [] s t ∧ NoAccess s t) ∧
    (∃ t, exec .des s = .next t ∧ t.sp.toNat = (s.sp.toNat + 65535) % 65536 ∧ Keeps [.sp] [] s t ∧ NoAccess s t) ∧
    (∃ t, exec .abx s = .next t ∧ t.x.toNat = (s.x.toNat + s.b.toNat) % 65536 ∧ Keeps [.x] [] s t ∧ NoAccess s t) ∧
    (∃ t, exec .aby s = .next t ∧ t.y.toNat = (s.y.toNat + s.b.toNat) % 65536 ∧ Keeps [.y] [] s t ∧ NoAccess s t)

/-- TAB and TBA write N Z and clear V; TPA, TSX, TSY, TXS, TYS, XGDX, XGDY write no flag. -/
def Obligations.Transfers : Prop :=
  ∀ s : State,
    (∃ t, exec .tab s = .next t ∧ t.b = s.a ∧ LogicFlags s.a t ∧ Keeps [.b] [.n, .z, .v] s t ∧ NoAccess s t) ∧
    (∃ t, exec .tba s = .next t ∧ t.a = s.b ∧ LogicFlags s.b t ∧ Keeps [.a] [.n, .z, .v] s t ∧ NoAccess s t) ∧
    (∃ t, exec .tpa s = .next t ∧ t.a = s.ccr ∧ Keeps [.a] [] s t ∧ NoAccess s t) ∧
    (∃ t, exec .tsx s = .next t ∧ t.x = s.sp + 1 ∧ Keeps [.x] [] s t ∧ NoAccess s t) ∧
    (∃ t, exec .tsy s = .next t ∧ t.y = s.sp + 1 ∧ Keeps [.y] [] s t ∧ NoAccess s t) ∧
    (∃ t, exec .txs s = .next t ∧ t.sp = s.x - 1 ∧ Keeps [.sp] [] s t ∧ NoAccess s t) ∧
    (∃ t, exec .tys s = .next t ∧ t.sp = s.y - 1 ∧ Keeps [.sp] [] s t ∧ NoAccess s t) ∧
    (∃ t, exec .xgdx s = .next t ∧ t.d = s.x ∧ t.x = s.d ∧ Keeps [.a, .b, .x] [] s t ∧ NoAccess s t) ∧
    (∃ t, exec .xgdy s = .next t ∧ t.d = s.y ∧ t.y = s.d ∧ Keeps [.a, .b, .y] [] s t ∧ NoAccess s t)

/-- CLC, SEC, CLV, SEV, SEI write their one bit; NOP nothing; CLI clears I and sets the inhibit when I was 1; TAP loads
every bit from A but X, which it can only clear, and sets the inhibit when it clears I. -/
def Obligations.ConditionCodeInstructions : Prop :=
  ∀ s : State,
    (∃ t, exec .clc s = .next t ∧ t.flag .c = false ∧ Keeps [] [.c] s t ∧ NoAccess s t) ∧
    (∃ t, exec .sec s = .next t ∧ t.flag .c = true ∧ Keeps [] [.c] s t ∧ NoAccess s t) ∧
    (∃ t, exec .clv s = .next t ∧ t.flag .v = false ∧ Keeps [] [.v] s t ∧ NoAccess s t) ∧
    (∃ t, exec .sev s = .next t ∧ t.flag .v = true ∧ Keeps [] [.v] s t ∧ NoAccess s t) ∧
    (∃ t, exec .sei s = .next t ∧ t.flag .i = true ∧ Keeps [] [.i] s t ∧ NoAccess s t) ∧
    exec .nop s = .next s ∧
    (∃ t, exec .cli s = .next t ∧ t.flag .i = false ∧ t.irqInhibit = (s.irqInhibit || s.flag .i) ∧ t.run = s.run ∧
      KeepsData [] [.i] s t ∧ NoAccess s t) ∧
    (∃ t, exec .tap s = .next t ∧ (∀ f, f ≠ .x → t.flag f = s.a.getLsbD f.bit) ∧
      t.flag .x = (s.flag .x && s.a.getLsbD 6) ∧
      t.irqInhibit = (s.irqInhibit || (s.flag .i && !t.flag .i)) ∧ t.run = s.run ∧
      KeepsData [] [.s, .x, .h, .i, .n, .z, .v, .c] s t ∧ NoAccess s t)

/-! ### Branches, bits, jumps -/

/-- The eighteen two-byte branches: taken exactly on the condition of its rule, to PCnext plus the signed offset modulo
65536; nothing but PC changes. And each branch's opcode, length and cycles (41_b_branch.md R161 to R178). -/
def Obligations.Branches : Prop :=
  ∀ (s : State) (rr : Byte),
    exec (.bra rr) s = .next (branched rr s true) ∧ exec (.brn rr) s = .next (branched rr s false) ∧
    exec (.bhi rr) s = .next (branched rr s (!s.flag .c && !s.flag .z)) ∧
    exec (.bls rr) s = .next (branched rr s (s.flag .c || s.flag .z)) ∧
    exec (.bcc rr) s = .next (branched rr s (!s.flag .c)) ∧ exec (.bhs rr) s = .next (branched rr s (!s.flag .c)) ∧
    exec (.bcs rr) s = .next (branched rr s (s.flag .c)) ∧ exec (.blo rr) s = .next (branched rr s (s.flag .c)) ∧
    exec (.bne rr) s = .next (branched rr s (!s.flag .z)) ∧ exec (.beq rr) s = .next (branched rr s (s.flag .z)) ∧
    exec (.bvc rr) s = .next (branched rr s (!s.flag .v)) ∧ exec (.bvs rr) s = .next (branched rr s (s.flag .v)) ∧
    exec (.bpl rr) s = .next (branched rr s (!s.flag .n)) ∧ exec (.bmi rr) s = .next (branched rr s (s.flag .n)) ∧
    exec (.bge rr) s = .next (branched rr s (s.flag .n == s.flag .v)) ∧
    exec (.blt rr) s = .next (branched rr s (s.flag .n != s.flag .v)) ∧
    exec (.bgt rr) s = .next (branched rr s (!s.flag .z && s.flag .n == s.flag .v)) ∧
    exec (.ble rr) s = .next (branched rr s (s.flag .z || s.flag .n != s.flag .v)) ∧
    (∀ p ∈ branchOpcodes rr, decode [p.1, rr] = .ok (p.2, 2) ∧ cycleCount p.2 = .exact 3) ∧
    encode (.bhs rr) = [0x24, rr] ∧ encode (.blo rr) = [0x25, rr] ∧ cycleCount (.bhs rr) = .exact 3 ∧
    cycleCount (.blo rr) = .exact 3

/-- After CMPA, CMPB, CBA, CPD, CPX, CPY, SUBA, SUBB, SUBD or SBA of `r - m`, every branch of the table is taken exactly
when its unsigned or signed relation of `r` to `m` holds. -/
def Obligations.CompareThenBranch : Prop :=
  ∀ (s : State) (p : Src8) (q : Src16),
    (∃ t, exec (.cmpa p) s = .next t ∧ BranchesRelate s.a (operand8 p s).1 t) ∧
    (∃ t, exec (.cmpb p) s = .next t ∧ BranchesRelate s.b (operand8 p s).1 t) ∧
    (∃ t, exec .cba s = .next t ∧ BranchesRelate s.a s.b t) ∧
    (∃ t, exec (.cpd q) s = .next t ∧ BranchesRelate s.d (operand16 q s).1 t) ∧
    (∃ t, exec (.cpx q) s = .next t ∧ BranchesRelate s.x (operand16 q s).1 t) ∧
    (∃ t, exec (.cpy q) s = .next t ∧ BranchesRelate s.y (operand16 q s).1 t) ∧
    (∃ t, exec (.suba p) s = .next t ∧ BranchesRelate s.a (operand8 p s).1 t) ∧
    (∃ t, exec (.subb p) s = .next t ∧ BranchesRelate s.b (operand8 p s).1 t) ∧
    (∃ t, exec (.subd q) s = .next t ∧ BranchesRelate s.d (operand16 q s).1 t) ∧
    (∃ t, exec .sba s = .next t ∧ BranchesRelate s.a s.b t)

/-- The opcodes `$20` to `$2F` come in pairs: the even one branches on the base condition of its pair, the odd one on its
negation. -/
def Obligations.BranchOpcodePairs : Prop :=
  ∀ (rr : Byte) (s : State), ∀ p ∈ branchPairs rr,
    decode [BitVec.ofNat 8 (0x20 + 2 * p.1), rr] = .ok (p.2.1, 2) ∧
    decode [BitVec.ofNat 8 (0x21 + 2 * p.1), rr] = .ok (p.2.2, 2) ∧
    exec p.2.1 s = .next (branched rr s (baseCondition p.1 s)) ∧
    exec p.2.2 s = .next (branched rr s (!baseCondition p.1 s))

/-- BCLR and BSET: read, clear or set the bits the mask selects, write back always, N and Z of the byte written, V cleared,
nothing else. -/
def Obligations.BitSetAndClear : Prop :=
  ∀ (s : State) (e : Ea) (mm : Byte),
    (∃ t r, exec (.bclr e mm) s = .next t ∧
      (∀ i, i < 8 → r.getLsbD i = ((memRead (eaAddr e s) s).1.getLsbD i && !mm.getLsbD i)) ∧ LogicFlags r t ∧
      Rewrites (eaAddr e s) r s t ∧ Keeps [] [.n, .z, .v] s t) ∧
    (∃ t r, exec (.bset e mm) s = .next t ∧
      (∀ i, i < 8 → r.getLsbD i = ((memRead (eaAddr e s) s).1.getLsbD i || mm.getLsbD i)) ∧ LogicFlags r t ∧
      Rewrites (eaAddr e s) r s t ∧ Keeps [] [.n, .z, .v] s t)

/-- BRCLR and BRSET: taken exactly when every bit the mask selects is 0, or 1; the byte is read once and not written, no
flag changes. -/
def Obligations.BranchOnBits : Prop :=
  ∀ (s : State) (e : Ea) (mm rr : Byte),
    (∃ t, exec (.brclr e mm rr) s = .next t ∧
      ((∀ i, mm.getLsbD i = true → (memRead (eaAddr e s) s).1.getLsbD i = false) → t.pc = target s.pc rr) ∧
      (¬(∀ i, mm.getLsbD i = true → (memRead (eaAddr e s) s).1.getLsbD i = false) → t.pc = s.pc) ∧
      ReadsByte e s t ∧ Keeps [.pc] [] s t) ∧
    (∃ t, exec (.brset e mm rr) s = .next t ∧
      ((∀ i, mm.getLsbD i = true → (memRead (eaAddr e s) s).1.getLsbD i = true) → t.pc = target s.pc rr) ∧
      (¬(∀ i, mm.getLsbD i = true → (memRead (eaAddr e s) s).1.getLsbD i = true) → t.pc = s.pc) ∧
      ReadsByte e s t ∧ Keeps [.pc] [] s t)

/-- JMP goes to the effective address; JSR and BSR push PCnext and go to theirs, computed before the push; RTS goes to the
word pulled. No flag changes. -/
def Obligations.Jumps : Prop :=
  ∀ (s : State) (e : Ea) (rr : Byte),
    exec (.jmp e) s = .next { s with pc := eaAddr e s } ∧
    (∃ t, exec (.jsr e) s = .next t ∧ t.pc = eaAddr e s ∧ PushesWord s.pc s t ∧ Keeps [.sp, .pc] [] s t) ∧
    (∃ t, exec (.bsr rr) s = .next t ∧ t.pc = target s.pc rr ∧ PushesWord s.pc s t ∧ Keeps [.sp, .pc] [] s t) ∧
    (∃ t, exec .rts s = .next t ∧ t.pc = pulledWord s ∧ PullsWord s t ∧ Keeps [.sp, .pc] [] s t)

/-- A call through RAM and the return: RTS after JSR or BSR goes to the address after the call with SP as before it. -/
def Obligations.CallThenReturn : Prop :=
  ∀ (s : State) (e : Ea) (rr : Byte), s.Inv → IsRam s s.sp → IsRam s (s.sp - 1) →
    (∃ t u, exec (.jsr e) s = .next t ∧ exec .rts t = .next u ∧ u.pc = s.pc ∧ u.sp = s.sp) ∧
    (∃ t u, exec (.bsr rr) s = .next t ∧ exec .rts t = .next u ∧ u.pc = s.pc ∧ u.sp = s.sp)

/-! ### Multiply, divide, decimal adjust -/

/-- MUL: the unsigned product in D, C its bit 7. IDIV and FDIV: quotient in X, remainder in D, Z V C; where there is no
quotient X is `$FFFF`, the flags say which error, and nothing is said of D (a free value, log entry 26). -/
def Obligations.MultiplyAndDivide : Prop :=
  ∀ s : State,
    (∃ t, exec .mul s = .next t ∧ t.d.toNat = s.a.toNat * s.b.toNat ∧ t.flag .c = t.d.getLsbD 7 ∧
      Keeps [.a, .b] [.c] s t ∧ NoAccess s t) ∧
    (∃ t, exec .idiv s = .next t ∧
      (s.x ≠ 0 → t.x.toNat = s.d.toNat / s.x.toNat ∧ t.d.toNat = s.d.toNat % s.x.toNat ∧
        t.flag .z = decide (t.x = 0) ∧ t.flag .c = false) ∧
      (s.x = 0 → t.x = 0xFFFF ∧ t.flag .z = false ∧ t.flag .c = true) ∧ t.flag .v = false ∧
      Keeps [.a, .b, .x] [.z, .v, .c] s t ∧ NoAccess s t) ∧
    (∃ t, exec .fdiv s = .next t ∧
      (s.d.toNat < s.x.toNat → t.x.toNat = s.d.toNat * 65536 / s.x.toNat ∧
        t.d.toNat = s.d.toNat * 65536 % s.x.toNat ∧ t.flag .z = decide (t.x = 0) ∧ t.flag .v = false ∧
        t.flag .c = false) ∧
      (s.x.toNat ≤ s.d.toNat → t.x = 0xFFFF ∧ t.flag .z = false ∧ t.flag .v = true ∧
        t.flag .c = decide (s.x = 0)) ∧
      Keeps [.a, .b, .x] [.z, .v, .c] s t ∧ NoAccess s t)

/-- DAA: `$06` is added when H = 1 or the low digit is above 9, `$60` when C = 1, the high digit is above 9, or it is 9 and
the low digit above 9; C is set by the second and never cleared; N and Z of the result; nothing is said of V (a free
value, log entry 26). -/
def Obligations.DecimalAdjust : Prop :=
  ∀ s : State, ∃ t, exec .daa s = .next t ∧
    (let low := s.flag .h || decide (9 < s.a.toNat % 16)
     let high := s.flag .c || decide (9 < s.a.toNat / 16) || (decide (9 ≤ s.a.toNat / 16) && decide (9 < s.a.toNat % 16))
     t.a.toNat = (s.a.toNat + (if low then 6 else 0) + (if high then 96 else 0)) % 256 ∧ t.flag .c = high) ∧
    NZof t.a t ∧ Keeps [.a] [.n, .z, .v, .c] s t ∧ NoAccess s t

/-- Decimal addition: for valid packed-BCD bytes, ADCA and then DAA leave the two low digits of the decimal sum in A and
the hundred in C; the same for ADDA without the carry in, and for ABA. -/
def Obligations.DecimalAddition : Prop :=
  ∀ (s : State) (p q m n : Nat), p < 10 → q < 10 → m < 10 → n < 10 → s.a = packBcd p q →
    (∃ t u, exec (.adca (.imm (packBcd m n))) s = .next t ∧ exec .daa t = .next u ∧
      (let sum := 10 * p + q + (10 * m + n) + (s.flag .c).toNat
       u.a = packBcd (sum / 10 % 10) (sum % 10) ∧ u.flag .c = decide (100 ≤ sum))) ∧
    (∃ t u, exec (.adda (.imm (packBcd m n))) s = .next t ∧ exec .daa t = .next u ∧
      (let sum := 10 * p + q + (10 * m + n)
       u.a = packBcd (sum / 10 % 10) (sum % 10) ∧ u.flag .c = decide (100 ≤ sum))) ∧
    (s.b = packBcd m n → ∃ t u, exec .aba s = .next t ∧ exec .daa t = .next u ∧
      (let sum := 10 * p + q + (10 * m + n)
       u.a = packBcd (sum / 10 % 10) (sum % 10) ∧ u.flag .c = decide (100 ≤ sum)))

/-! ### Stack -/

/-- PSHA, PSHB, PSHX, PSHY: the byte at SP, or the word low byte first, SP lowered; no register, no flag. They are
Push8 and Push16 (20_memory.md R74, R76), which the spec marks as general knowledge (K3, log entry 4). -/
def Obligations.Pushes : Prop :=
  ∀ s : State,
    (∀ v, push8 v s = { memWrite s.sp v s with sp := s.sp - 1 }) ∧
    (∀ v, push16 v s = push8 (hi v) (push8 (lo v) s) ∧ PushesWord v s (push16 v s)) ∧
    (∃ t, exec .psha s = .next t ∧ Puts s.sp s.a s t ∧ t.sp = s.sp - 1 ∧ Keeps [.sp] [] s t) ∧
    (∃ t, exec .pshb s = .next t ∧ Puts s.sp s.b s t ∧ t.sp = s.sp - 1 ∧ Keeps [.sp] [] s t) ∧
    (∃ t, exec .pshx s = .next t ∧ PushesWord s.x s t ∧ Keeps [.sp] [] s t) ∧
    (∃ t, exec .pshy s = .next t ∧ PushesWord s.y s t ∧ Keeps [.sp] [] s t)

/-- PULA, PULB, PULX, PULY: the byte above SP, or the word high byte first, SP raised; no flag, nothing stored. -/
def Obligations.Pulls : Prop :=
  ∀ s : State,
    (∃ t, exec .pula s = .next t ∧ t.a = (memRead (s.sp + 1) s).1 ∧ t.sp = s.sp + 1 ∧ KeepsMemory s t ∧
      SameIo (memRead (s.sp + 1) s).2 t ∧ Keeps [.a, .sp] [] s t) ∧
    (∃ t, exec .pulb s = .next t ∧ t.b = (memRead (s.sp + 1) s).1 ∧ t.sp = s.sp + 1 ∧ KeepsMemory s t ∧
      SameIo (memRead (s.sp + 1) s).2 t ∧ Keeps [.b, .sp] [] s t) ∧
    (∃ t, exec .pulx s = .next t ∧ t.x = pulledWord s ∧ PullsWord s t ∧ Keeps [.x, .sp] [] s t) ∧
    (∃ t, exec .puly s = .next t ∧ t.y = pulledWord s ∧ PullsWord s t ∧ Keeps [.y, .sp] [] s t)

/-- Stack balance through RAM: PSHA; PULA changes nothing but the byte at the old SP, PSHX; PULY copies X to Y, and PSHA;
PSHB; PULX gives X = B : A. A pull takes what memory holds above SP, whoever wrote it. -/
def Obligations.StackBalance : Prop :=
  (∀ s : State, s.Inv → IsRam s s.sp → IsRam s (s.sp - 1) →
    (∃ t u, exec .psha s = .next t ∧ exec .pula t = .next u ∧ u.stored s.sp = s.a ∧ StoresOnly [s.sp] s u ∧
      Keeps [] [] s u) ∧
    (∃ t u, exec .pshx s = .next t ∧ exec .puly t = .next u ∧ u.y = s.x ∧ u.sp = s.sp) ∧
    (∃ t u v, exec .psha s = .next t ∧ exec .pshb t = .next u ∧ exec .pulx u = .next v ∧ v.x = cat16 s.b s.a ∧
      v.sp = s.sp)) ∧
  (∀ s : State, IsMem s (s.sp + 1) → IsMem s (s.sp + 2) →
    (∃ t, exec .pula s = .next t ∧ t.a = s.stored (s.sp + 1) ∧ NoAccess s t) ∧
    (∃ t, exec .pulb s = .next t ∧ t.b = s.stored (s.sp + 1) ∧ NoAccess s t) ∧
    (∃ t, exec .pulx s = .next t ∧ t.x = cat16 (s.stored (s.sp + 1)) (s.stored (s.sp + 2)) ∧ NoAccess s t) ∧
    (∃ t, exec .puly s = .next t ∧ t.y = cat16 (s.stored (s.sp + 1)) (s.stored (s.sp + 2)) ∧ NoAccess s t) ∧
    (∃ t, exec .rts s = .next t ∧ t.pc = cat16 (s.stored (s.sp + 1)) (s.stored (s.sp + 2)) ∧ NoAccess s t))

/-! ### Exceptions -/

/-- SWI stacks the frame with the address after it and enters its handler, whatever I and X are; wherever the stack and the
vector stand, it completes, lowers SP by nine, sets I and changes no other register or flag but PC. -/
def Obligations.SoftwareInterrupt : Prop :=
  (∀ s : State, EntryReady .swi s → ∃ t, exec .swi s = .next t ∧ EntersHandler .swi s.pc s t) ∧
  (∀ s : State, ∃ t, exec .swi s = .next t ∧ t.sp = s.sp - 9 ∧ t.flag .i = true ∧ t.run = .running ∧
    t.irqInhibit = false ∧ KeepsData [.sp, .pc] [.i] s t)

/-- WAI stacks the frame with the address after it and waits; CCR and every register but SP keep their values, wherever the
stack stands. -/
def Obligations.WaitInstruction : Prop :=
  (∀ s : State, s.Inv → (∀ a ∈ frameAt s, IsRam s a) →
    ∃ t, exec .wai s = .next t ∧ StacksFrame s.pc s t ∧ t.run = .waiting ∧ t.irqInhibit = s.irqInhibit ∧
      t.ccr = s.ccr ∧ KeepsData [.sp] [] s t) ∧
  (∀ s : State, ∃ t, exec .wai s = .next t ∧ t.sp = s.sp - 9 ∧ t.run = .waiting ∧ t.irqInhibit = s.irqInhibit ∧
    t.ccr = s.ccr ∧ KeepsData [.sp] [] s t)

/-- STOP is a NOP while S = 1, and with S = 0 only the run state changes. TEST hangs the machine in special test mode; in
the normal modes it takes the illegal opcode trap, with the return address ILLOP_RETURN_PC says (log entry 19). -/
def Obligations.StopAndTest : Prop :=
  ∀ s : State,
    (s.flag .s = true → exec .stop s = .next s) ∧
    (s.flag .s = false → exec .stop s = .next { s with run := .stopped }) ∧
    (s.cfg.mode = .specialTest → exec .test s = .next { s with run := .hung }) ∧
    (s.cfg.mode = .normal → EntryReady .ill s → ∃ t, exec .test s = .next t ∧
      EntersHandler .ill (if s.cfg.illopReturnPc = .opcodeAddress then s.pc - 1 else s.pc) s t)

/-- The vector table: each source's two-byte vector stands at its own address, and no other. -/
def Obligations.VectorTable : Prop :=
  [TrapSource.maskable .sci, .maskable .spi, .maskable .paie, .maskable .paov, .maskable .tof, .maskable .toc5,
    .maskable .toc4, .maskable .toc3, .maskable .toc2, .maskable .toc1, .maskable .tic3, .maskable .tic2,
    .maskable .tic1, .maskable .rtii, .maskable .irq, .xirq, .swi, .ill].map trapVector =
  [0xFFD6, 0xFFD8, 0xFFDA, 0xFFDC, 0xFFDE, 0xFFE0, 0xFFE2, 0xFFE4, 0xFFE6, 0xFFE8, 0xFFEA, 0xFFEC, 0xFFEE, 0xFFF0,
    0xFFF2, 0xFFF4, 0xFFF6, 0xFFF8] ∧
  [ResetCause.cop, .cmf, .reset].map resetVector = [0xFFFA, 0xFFFC, 0xFFFE] ∧
  (∀ p q : TrapSource, trapVector p = trapVector q → p = q) ∧
  (∀ (p : TrapSource) (c : ResetCause), trapVector p ≠ resetVector c)

/-- RTI pulls CCR, B, A, X, Y and PC from the nine bytes above SP; X can only go from 1 to 0; no inhibit is set; nothing is
stored, wherever the stack stands. -/
def Obligations.ReturnFromInterrupt : Prop :=
  (∀ s : State, (∀ k : Nat, 1 ≤ k → k ≤ 9 → IsMem s (s.sp + BitVec.ofNat 16 k)) →
    ∃ t, exec .rti s = .next t ∧
      (∀ f, f ≠ .x → t.flag f = (s.stored (s.sp + 1)).getLsbD f.bit) ∧
      t.flag .x = (s.flag .x && (s.stored (s.sp + 1)).getLsbD 6) ∧
      t.b = s.stored (s.sp + 2) ∧ t.a = s.stored (s.sp + 3) ∧
      t.x = cat16 (s.stored (s.sp + 4)) (s.stored (s.sp + 5)) ∧
      t.y = cat16 (s.stored (s.sp + 6)) (s.stored (s.sp + 7)) ∧
      t.pc = cat16 (s.stored (s.sp + 8)) (s.stored (s.sp + 9)) ∧ t.sp = s.sp + 9 ∧
      KeepsData [.a, .b, .x, .y, .sp, .pc] [.s, .x, .h, .i, .n, .z, .v, .c] s t ∧ t.irqInhibit = s.irqInhibit ∧
      t.run = s.run ∧ NoAccess s t) ∧
  (∀ s : State, ∃ t, exec .rti s = .next t ∧ t.sp = s.sp + 9 ∧ (s.flag .x = false → t.flag .x = false) ∧ KeepsMemory s t ∧
    (s.busScript = [] → t.io = s.io) ∧
    t.irqInhibit = s.irqInhibit ∧ t.run = s.run ∧ t.lines = s.lines ∧ t.resets = s.resets ∧ t.cfg = s.cfg)

/-- RTI undoes an entry: after any entry with its frame in RAM, RTI restores A, B, X, Y, SP, the whole CCR and goes to the
return address. -/
def Obligations.ReturnUndoesEntry : Prop :=
  ∀ (s : State) (src : TrapSource) (returnPc : Word), EntryReady src s →
    ∃ t, exec .rti (trapEntry src returnPc true s) = .next t ∧ t.a = s.a ∧ t.b = s.b ∧ t.x = s.x ∧ t.y = s.y ∧
      t.sp = s.sp ∧ t.ccr = s.ccr ∧ t.pc = returnPc ∧ StoresOnly (frameAt s) s t ∧ t.io = s.io

/-! ### Memory and the register block -/

/-- The kinds of memory: RAM gives what the latest write left, at every other address nothing changes; ROM and unmapped
addresses ignore writes; reading RAM or ROM gives the stored byte and changes nothing. Reading an I/O address leaves one
event and changes nothing else but what the timer does just before it; OC1M, OC1D, TCTL1, TCTL2, TMSK1 and TFLG1 read back
what they hold, and bits 2 to 0 of CFORC read 0. The model's own: that those six read back although R72 lets any I/O read be
free (log entry 6), the timer's turn before an I/O access (log entry 34), the draw of an unmapped read's free value (log
entry 5). -/
def Obligations.MemoryKinds : Prop :=
  ∀ (s : State) (a : Word) (v : Byte), s.Inv →
    (IsRam s a → (memRead a (memWrite a v s)).1 = v ∧
      (∀ b, b ≠ a → IsMem s b → memRead b (memWrite a v s) = (s.stored b, memWrite a v s)) ∧
      memWrite a v s = { s with mem := (memWrite a v s).mem } ∧ (memWrite a v s).Inv) ∧
    (kindAt s.cfg a = .rom → memWrite a v s = s) ∧
    (kindAt s.cfg a = .unmapped → memWrite a v s = s ∧ (memRead a s).2 = { s with draws := s.draws + 1 }) ∧
    (IsMem s a → memRead a s = (s.stored a, s)) ∧
    (kindAt s.cfg a = .io →
      (memRead a s).2.events = .read a (memRead a s).1 :: s.events ∧ (memRead a s).2.io = (busTurn s).io ∧
      KeepsMemory s (memRead a s).2 ∧ Keeps [] [] s (memRead a s).2 ∧
      (∀ b, readsBack (busTurn s).io (ioNameOf s.cfg a) = some b → (memRead a s).1 = b) ∧
      (ioNameOf s.cfg a = .cforc → ∀ i, i < 3 → (memRead a s).1.getLsbD i = false)) ∧
    (s.busScript = [] → busTurn s = s)

/-- A two-byte access is two one-byte accesses, at every address, odd or even, wrapping from `$FFFF` to `$0000`: the byte
at the lower address first, and it is the more significant (20_memory.md R64). In memory it gives what the two bytes hold,
and a word stored is the word read back. -/
def Obligations.WordsAreBigEndian : Prop :=
  ∀ (s : State) (a v : Word),
    memRead16 a s =
      (cat16 (memRead a s).1 (memRead (a + 1) (memRead a s).2).1, (memRead (a + 1) (memRead a s).2).2) ∧
    memWrite16 a v s = memWrite (a + 1) (lo v) (memWrite a (hi v) s) ∧
    (∀ h l : Byte, (cat16 h l).toNat = 256 * h.toNat + l.toNat) ∧
    (hi v).toNat = v.toNat / 256 ∧ (lo v).toNat = v.toNat % 256 ∧
    (IsMem s a → IsMem s (a + 1) →
      (memRead16 a s).1.toNat = 256 * (s.stored a).toNat + (s.stored (a + 1)).toNat ∧ (memRead16 a s).2 = s) ∧
    (s.Inv → IsRam s a → IsRam s (a + 1) →
      ((memWrite16 a v s).stored a).toNat = v.toNat / 256 ∧
      ((memWrite16 a v s).stored (a + 1)).toNat = v.toNat % 256 ∧
      (memRead16 a (memWrite16 a v s)).1 = v ∧ StoresOnly [a, a + 1] s (memWrite16 a v s))

/-- The operand forms: an immediate is the operand; DIR is zero-extended, EXT is the address, the indexed forms add an
unsigned offset modulo 65536; a memory operand is the byte or the word there. -/
def Obligations.OperandForms : Prop :=
  ∀ (s : State) (v : Byte) (u : Word) (e : Ea),
    operand8 (.imm v) s = (v, s) ∧ operand16 (.imm u) s = (u, s) ∧
    (eaAddr (.dir v) s).toNat = v.toNat ∧ eaAddr (.ext u) s = u ∧
    (eaAddr (.indx v) s).toNat = (s.x.toNat + v.toNat) % 65536 ∧
    (eaAddr (.indy v) s).toNat = (s.y.toNat + v.toNat) % 65536 ∧
    (IsMem s (eaAddr e s) → operand8 (.mem e) s = (s.stored (eaAddr e s), s)) ∧
    (IsMem s (eaAddr e s) → IsMem s (eaAddr e s + 1) →
      operand16 (.mem e) s = (cat16 (s.stored (eaAddr e s)) (s.stored (eaAddr e s + 1)), s))

/-- TFLG1 is write-1-to-clear, and what STAA, BSET and BCLR on it do to the flags the timer has set by each of their
accesses: BSET clears every flag set when it read and every flag its mask selects, BCLR every flag set when it read that
its mask does not select; a flag set between the two accesses can survive. With nothing in the timer between them BSET
clears every flag. That the timer can act between two accesses is log entry 34. -/
def Obligations.FlagRegisterClears : Prop :=
  ∀ (s : State) (e : Ea) (mm : Byte), kindAt s.cfg (eaAddr e s) = .io → ioNameOf s.cfg (eaAddr e s) = .tflg1 →
    let first := (busTurn s).io.tflg1
    let second := (busTurn (busTurn s)).io.tflg1
    (∃ t, exec (.staa e) s = .next t ∧ ∀ i, i < 8 → t.io.tflg1.getLsbD i = (first.getLsbD i && !s.a.getLsbD i)) ∧
    (∃ t, exec (.bset e mm) s = .next t ∧
      (∀ i, i < 8 → t.io.tflg1.getLsbD i = (second.getLsbD i && !(first.getLsbD i || mm.getLsbD i))) ∧
      (s.busScript = [] → t.io.tflg1 = 0)) ∧
    (∃ t, exec (.bclr e mm) s = .next t ∧
      (∀ i, i < 8 → t.io.tflg1.getLsbD i = (second.getLsbD i && !(first.getLsbD i && !mm.getLsbD i))) ∧
      (s.busScript = [] → ∀ i, i < 8 → t.io.tflg1.getLsbD i = (s.io.tflg1.getLsbD i && mm.getLsbD i)))

/-- Compares and captures. When TCNT reaches a count, the flags of exactly the output compares whose registers equal it are
set, the pins act as those compares make them, and no other register of the block changes. An edge on a capture pin does
something exactly when TCTL2 selects it, in either layout: the register takes the count and the flag is set, and no other
register changes. While the machine is stopped neither does anything. Just before an I/O access the timer takes the first
entry of its script. The model's own: which level a pin takes where OC1 and another compare disagree is left open, and
whether they agree is judged on the level before (log entry 8); no pair selects IC4 in the source's layout, and IC4 sets the
flag I4/O5F in the other (log entry 11); that TCNT's counts and the edges are the environment's events (log entry 14); that
TIC4/TOC5 compares and captures at once (log entry 31); the turn before an I/O access (log entry 34). -/
def Obligations.TimerEvents : Prop :=
  (∀ (s : State) (e : TimerEvent), s.run = .stopped → applyEvent (.timer e) s = s) ∧
  (∀ (s : State) (count : Word), s.run ≠ .stopped →
    let t := applyEvent (.timer (.count count)) s
    (∀ n, t.io.tflg1.getLsbD (compareBit n) =
      (s.io.tflg1.getLsbD (compareBit n) || decide (compareReg s.io n = count))) ∧
    (∀ i, i < 3 → t.io.tflg1.getLsbD i = s.io.tflg1.getLsbD i) ∧
    (∀ which : Byte, (∀ n, which.getLsbD (compareBit n) = decide (compareReg s.io n = count)) →
      PinsAct which s.io t.io.pins) ∧
    t.io = { s.io with pins := t.io.pins, tflg1 := t.io.tflg1 } ∧ t = { s with io := t.io, draws := t.draws }) ∧
  (∀ (s : State) (n : Capture) (e : Edge) (count : Word), s.run ≠ .stopped →
    let t := applyEvent (.timer (.capture n e count)) s
    (selectsEdge s.cfg.tctl2Layout s.io.tctl2 n e = false → t = s) ∧
    (selectsEdge s.cfg.tctl2Layout s.io.tctl2 n e = true →
      captureReg t.io n = count ∧ (∀ m, m ≠ n → captureReg t.io m = captureReg s.io m) ∧
      (∀ i, i < 8 → t.io.tflg1.getLsbD i = (s.io.tflg1.getLsbD i || decide (i = captureBit n))) ∧
      t.io = { s.io with
        tflg1 := t.io.tflg1, tic1 := t.io.tic1, tic2 := t.io.tic2, tic3 := t.io.tic3, toc5 := t.io.toc5 } ∧
      t = { s with io := t.io })) ∧
  (∀ (s : State), s.busScript = [] → busTurn s = s) ∧
  (∀ (s : State) (es : List TimerEvent) (rest : List (List TimerEvent)), s.busScript = es :: rest →
    busTurn s = applyEvents (es.map .timer) { s with busScript := rest })

/-- Writes to the register block, on the registers as the timer leaves them just before the access: every one is recorded as
an event, changes no memory and no register of the CPU. CFORC makes the compares whose bits are set act on their pins, sets
no flag of another, clears none, and changes no other register; PORTA drives PA6 to PA3 where the pair is 00 and changes no
other pin and no other register; TFLG1 loses the flags written as 1; OC1M, OC1D, TCTL1, TMSK1 take the byte, TCTL2 without
the bits its layout lacks, and TOC1 to TOC4 and TIC4/TOC5 take the byte as their high or low one; a store to any other
register, TIC1 to TIC3 and TCNT among them, stores nothing. The model's own: a forced compare's flag is left open (log
entry 7), and so is a pin to which OC1 and another compare give different levels (log entry 8); PORTA leaves PA7 and PA2 to
PA0 alone (log entry 9); TCTL2's absent bits (log entry 11); the bytes of the 16-bit registers are written one by one, and a
store to TIC1 to TIC3 stores nothing (log entry 21); a store to TCTL1 leaves every pin's level as it was, also where a pair
goes back to 00 (log entry 32); the timer's turn before the access (log entry 34). -/
def Obligations.RegisterBlockWrites : Prop :=
  ∀ (s : State) (a : Word) (v : Byte), kindAt s.cfg a = .io →
    let io := (busTurn s).io
    let t := memWrite a v s
    t.events = .write a v :: s.events ∧ KeepsMemory s t ∧ Keeps [] [] s t ∧
    (ioNameOf s.cfg a = .cforc →
      PinsAct v io t.io.pins ∧
      (∀ i, i < 8 → io.tflg1.getLsbD i = true → t.io.tflg1.getLsbD i = true) ∧
      (∀ i, i < 8 → (i < 3 ∨ v.getLsbD i = false) → t.io.tflg1.getLsbD i = io.tflg1.getLsbD i) ∧
      t.io = { io with pins := t.io.pins, tflg1 := t.io.tflg1 }) ∧
    (ioNameOf s.cfg a = .porta →
      (∀ n, n ≠ .oc1 → t.io.pins.getLsbD (compareBit n) =
        if actionPair io.tctl1 n = (false, false) then v.getLsbD (compareBit n)
        else io.pins.getLsbD (compareBit n)) ∧
      (∀ i, i = 7 ∨ i < 3 → t.io.pins.getLsbD i = io.pins.getLsbD i) ∧
      t.io = { io with pins := t.io.pins }) ∧
    (ioNameOf s.cfg a = .tflg1 →
      (∀ i, i < 8 → t.io.tflg1.getLsbD i = (io.tflg1.getLsbD i && !v.getLsbD i)) ∧
      t.io = { io with tflg1 := t.io.tflg1 }) ∧
    (∀ after, storedInto s.cfg.tctl2Layout (ioNameOf s.cfg a) v io = some after → t.io = after)

/-! ### Whole-machine rules -/

/-- X goes from 0 to 1 by no instruction, and by a step only at a reset or when XIRQ is taken; while X = 1 XIRQ is not
accepted; TAP and RTI AND X with the new bit 6. -/
def Obligations.XMaskIsOneWay : Prop :=
  (∀ (i : Instr) (s t : State), exec i s = .next t → s.flag .x = false → t.flag .x = false) ∧
  (∀ s t : State, step s = .next t → s.flag .x = false → t.flag .x = true →
    (∃ c, topReset (envTurn s) = some c) ∨ Line.xirq ∈ (envTurn s).lines) ∧
  (∀ s : State, s.flag .x = true → select s ≠ some .xirq ∧ selectUninhibited s ≠ some .xirq) ∧
  (∀ s t : State, exec .tap s = .next t → t.flag .x = (s.flag .x && s.a.getLsbD 6)) ∧
  (∀ s t : State, exec .rti s = .next t → t.flag .x = (s.flag .x && (memRead (s.sp + 1) s).1.getLsbD 6))

/-- Only TAP and RTI write S; only ABA, ADDA, ADDB, ADCA, ADCB, TAP and RTI write H; only WAI, STOP and TEST make a running
machine anything but running; no instruction writes a parameter, a request line or an asserted reset. -/
def Obligations.OnlyTheNamedWriters : Prop :=
  ∀ (i : Instr) (s t : State), exec i s = .next t →
    (i ≠ .tap → i ≠ .rti → t.flag .s = s.flag .s) ∧
    (i ≠ .aba → (∀ m, i ≠ .adda m) → (∀ m, i ≠ .addb m) → (∀ m, i ≠ .adca m) → (∀ m, i ≠ .adcb m) → i ≠ .tap →
      i ≠ .rti → t.flag .h = s.flag .h) ∧
    (s.run = .running → i ≠ .wai → i ≠ .stop → i ≠ .test → t.run = .running) ∧
    t.cfg = s.cfg ∧ t.lines = s.lines ∧ t.resets = s.resets

/-- Loading the spec's S-record example stores `$70` to `$7F` at `$0170` to `$017F` and nothing else. -/
def Obligations.LoadsExampleRecord : Prop :=
  ∀ s : State, s.mem.wf → ∃ t, loadS19 exampleRecord s = .ok t ∧
    (∀ i : Nat, i < 16 → t.stored (BitVec.ofNat 16 (0x170 + i)) = BitVec.ofNat 8 (0x70 + i)) ∧
    (∀ a : Word, a.toNat < 0x170 ∨ 0x180 ≤ a.toNat → t.stored a = s.stored a)
end

