-- ==== Sys2Proof/Laws/Bits.lean ====
section
/-! SUPPORT. The two bytes of a word and back. -/

namespace Sys2Proof.Machine

theorem cat16_getLsbD (h l : Byte) (i : Nat) :
    (cat16 h l).getLsbD i = if i < 8 then l.getLsbD i else h.getLsbD (i - 8) := by
  refine (BitVec.getLsbD_append (x := h) (y := l)).trans ?_
  split <;> simp_all

@[simp] theorem hi_cat16 (h l : Byte) : hi (cat16 h l) = h := by
  apply BitVec.eq_of_getLsbD_eq
  intro i lt
  simp [hi, lt, cat16_getLsbD]

@[simp] theorem lo_cat16 (h l : Byte) : lo (cat16 h l) = l := by
  apply BitVec.eq_of_getLsbD_eq
  intro i lt
  simp [lo, lt, cat16_getLsbD]

@[simp] theorem cat16_hi_lo (v : Word) : cat16 (hi v) (lo v) = v := by
  apply BitVec.eq_of_getLsbD_eq
  intro i lt
  rw [cat16_getLsbD]
  split
  · next g => simp [lo, g]
  · next g =>
    have e : i - 8 < 8 := by omega
    have f : 8 + (i - 8) = i := by omega
    simp [hi, e, f]

theorem cat16_toNat (h l : Byte) : (cat16 h l).toNat = h.toNat * 256 + l.toNat := by
  unfold cat16
  have hl : l.toNat < 2 ^ 8 := l.isLt
  rw [BitVec.toNat_append, Nat.shiftLeft_eq, ← Nat.shiftLeft_eq, ← Nat.shiftLeft_add_eq_or_of_lt hl,
    Nat.shiftLeft_eq]

@[simp] theorem zext16_toNat (v : Byte) : (zext16 v).toNat = v.toNat := by
  unfold zext16
  have := v.isLt
  simp only [BitVec.truncate_eq_setWidth, BitVec.toNat_setWidth]
  omega

theorem cat16_inj {h l h' l' : Byte} : cat16 h l = cat16 h' l' ↔ h = h' ∧ l = l' :=
  ⟨fun e => ⟨by simpa using congrArg hi e, by simpa using congrArg lo e⟩, fun ⟨a, b⟩ => by rw [a, b]⟩

end Sys2Proof.Machine
end

