-- ==== Sys2Proof/Laws/State.lean ====
section
/-! SUPPORT. One lemma per field per update of the state, and the fields of the compound updates. -/

namespace Sys2Proof.Machine

variable (s : State)

/-! ### setA -/

@[simp] theorem State.setA_a (v : Byte) : (s.setA v).a = v := rfl
@[simp] theorem State.setA_b (v : Byte) : (s.setA v).b = s.b := rfl
@[simp] theorem State.setA_x (v : Byte) : (s.setA v).x = s.x := rfl
@[simp] theorem State.setA_y (v : Byte) : (s.setA v).y = s.y := rfl
@[simp] theorem State.setA_sp (v : Byte) : (s.setA v).sp = s.sp := rfl
@[simp] theorem State.setA_pc (v : Byte) : (s.setA v).pc = s.pc := rfl
@[simp] theorem State.setA_ccr (v : Byte) : (s.setA v).ccr = s.ccr := rfl
@[simp] theorem State.setA_mem (v : Byte) : (s.setA v).mem = s.mem := rfl
@[simp] theorem State.setA_run (v : Byte) : (s.setA v).run = s.run := rfl
@[simp] theorem State.setA_irqInhibit (v : Byte) : (s.setA v).irqInhibit = s.irqInhibit := rfl
@[simp] theorem State.setA_lines (v : Byte) : (s.setA v).lines = s.lines := rfl
@[simp] theorem State.setA_resets (v : Byte) : (s.setA v).resets = s.resets := rfl
@[simp] theorem State.setA_io (v : Byte) : (s.setA v).io = s.io := rfl
@[simp] theorem State.setA_events (v : Byte) : (s.setA v).events = s.events := rfl
@[simp] theorem State.setA_cfg (v : Byte) : (s.setA v).cfg = s.cfg := rfl
@[simp] theorem State.setA_draws (v : Byte) : (s.setA v).draws = s.draws := rfl
@[simp] theorem State.setA_script (v : Byte) : (s.setA v).script = s.script := rfl
@[simp] theorem State.setA_busScript (v : Byte) : (s.setA v).busScript = s.busScript := rfl

/-! ### setB -/

@[simp] theorem State.setB_a (v : Byte) : (s.setB v).a = s.a := rfl
@[simp] theorem State.setB_b (v : Byte) : (s.setB v).b = v := rfl
@[simp] theorem State.setB_x (v : Byte) : (s.setB v).x = s.x := rfl
@[simp] theorem State.setB_y (v : Byte) : (s.setB v).y = s.y := rfl
@[simp] theorem State.setB_sp (v : Byte) : (s.setB v).sp = s.sp := rfl
@[simp] theorem State.setB_pc (v : Byte) : (s.setB v).pc = s.pc := rfl
@[simp] theorem State.setB_ccr (v : Byte) : (s.setB v).ccr = s.ccr := rfl
@[simp] theorem State.setB_mem (v : Byte) : (s.setB v).mem = s.mem := rfl
@[simp] theorem State.setB_run (v : Byte) : (s.setB v).run = s.run := rfl
@[simp] theorem State.setB_irqInhibit (v : Byte) : (s.setB v).irqInhibit = s.irqInhibit := rfl
@[simp] theorem State.setB_lines (v : Byte) : (s.setB v).lines = s.lines := rfl
@[simp] theorem State.setB_resets (v : Byte) : (s.setB v).resets = s.resets := rfl
@[simp] theorem State.setB_io (v : Byte) : (s.setB v).io = s.io := rfl
@[simp] theorem State.setB_events (v : Byte) : (s.setB v).events = s.events := rfl
@[simp] theorem State.setB_cfg (v : Byte) : (s.setB v).cfg = s.cfg := rfl
@[simp] theorem State.setB_draws (v : Byte) : (s.setB v).draws = s.draws := rfl
@[simp] theorem State.setB_script (v : Byte) : (s.setB v).script = s.script := rfl
@[simp] theorem State.setB_busScript (v : Byte) : (s.setB v).busScript = s.busScript := rfl

/-! ### setX -/

@[simp] theorem State.setX_a (v : Word) : (s.setX v).a = s.a := rfl
@[simp] theorem State.setX_b (v : Word) : (s.setX v).b = s.b := rfl
@[simp] theorem State.setX_x (v : Word) : (s.setX v).x = v := rfl
@[simp] theorem State.setX_y (v : Word) : (s.setX v).y = s.y := rfl
@[simp] theorem State.setX_sp (v : Word) : (s.setX v).sp = s.sp := rfl
@[simp] theorem State.setX_pc (v : Word) : (s.setX v).pc = s.pc := rfl
@[simp] theorem State.setX_ccr (v : Word) : (s.setX v).ccr = s.ccr := rfl
@[simp] theorem State.setX_mem (v : Word) : (s.setX v).mem = s.mem := rfl
@[simp] theorem State.setX_run (v : Word) : (s.setX v).run = s.run := rfl
@[simp] theorem State.setX_irqInhibit (v : Word) : (s.setX v).irqInhibit = s.irqInhibit := rfl
@[simp] theorem State.setX_lines (v : Word) : (s.setX v).lines = s.lines := rfl
@[simp] theorem State.setX_resets (v : Word) : (s.setX v).resets = s.resets := rfl
@[simp] theorem State.setX_io (v : Word) : (s.setX v).io = s.io := rfl
@[simp] theorem State.setX_events (v : Word) : (s.setX v).events = s.events := rfl
@[simp] theorem State.setX_cfg (v : Word) : (s.setX v).cfg = s.cfg := rfl
@[simp] theorem State.setX_draws (v : Word) : (s.setX v).draws = s.draws := rfl
@[simp] theorem State.setX_script (v : Word) : (s.setX v).script = s.script := rfl
@[simp] theorem State.setX_busScript (v : Word) : (s.setX v).busScript = s.busScript := rfl

/-! ### setY -/

@[simp] theorem State.setY_a (v : Word) : (s.setY v).a = s.a := rfl
@[simp] theorem State.setY_b (v : Word) : (s.setY v).b = s.b := rfl
@[simp] theorem State.setY_x (v : Word) : (s.setY v).x = s.x := rfl
@[simp] theorem State.setY_y (v : Word) : (s.setY v).y = v := rfl
@[simp] theorem State.setY_sp (v : Word) : (s.setY v).sp = s.sp := rfl
@[simp] theorem State.setY_pc (v : Word) : (s.setY v).pc = s.pc := rfl
@[simp] theorem State.setY_ccr (v : Word) : (s.setY v).ccr = s.ccr := rfl
@[simp] theorem State.setY_mem (v : Word) : (s.setY v).mem = s.mem := rfl
@[simp] theorem State.setY_run (v : Word) : (s.setY v).run = s.run := rfl
@[simp] theorem State.setY_irqInhibit (v : Word) : (s.setY v).irqInhibit = s.irqInhibit := rfl
@[simp] theorem State.setY_lines (v : Word) : (s.setY v).lines = s.lines := rfl
@[simp] theorem State.setY_resets (v : Word) : (s.setY v).resets = s.resets := rfl
@[simp] theorem State.setY_io (v : Word) : (s.setY v).io = s.io := rfl
@[simp] theorem State.setY_events (v : Word) : (s.setY v).events = s.events := rfl
@[simp] theorem State.setY_cfg (v : Word) : (s.setY v).cfg = s.cfg := rfl
@[simp] theorem State.setY_draws (v : Word) : (s.setY v).draws = s.draws := rfl
@[simp] theorem State.setY_script (v : Word) : (s.setY v).script = s.script := rfl
@[simp] theorem State.setY_busScript (v : Word) : (s.setY v).busScript = s.busScript := rfl

/-! ### setSp -/

@[simp] theorem State.setSp_a (v : Word) : (s.setSp v).a = s.a := rfl
@[simp] theorem State.setSp_b (v : Word) : (s.setSp v).b = s.b := rfl
@[simp] theorem State.setSp_x (v : Word) : (s.setSp v).x = s.x := rfl
@[simp] theorem State.setSp_y (v : Word) : (s.setSp v).y = s.y := rfl
@[simp] theorem State.setSp_sp (v : Word) : (s.setSp v).sp = v := rfl
@[simp] theorem State.setSp_pc (v : Word) : (s.setSp v).pc = s.pc := rfl
@[simp] theorem State.setSp_ccr (v : Word) : (s.setSp v).ccr = s.ccr := rfl
@[simp] theorem State.setSp_mem (v : Word) : (s.setSp v).mem = s.mem := rfl
@[simp] theorem State.setSp_run (v : Word) : (s.setSp v).run = s.run := rfl
@[simp] theorem State.setSp_irqInhibit (v : Word) : (s.setSp v).irqInhibit = s.irqInhibit := rfl
@[simp] theorem State.setSp_lines (v : Word) : (s.setSp v).lines = s.lines := rfl
@[simp] theorem State.setSp_resets (v : Word) : (s.setSp v).resets = s.resets := rfl
@[simp] theorem State.setSp_io (v : Word) : (s.setSp v).io = s.io := rfl
@[simp] theorem State.setSp_events (v : Word) : (s.setSp v).events = s.events := rfl
@[simp] theorem State.setSp_cfg (v : Word) : (s.setSp v).cfg = s.cfg := rfl
@[simp] theorem State.setSp_draws (v : Word) : (s.setSp v).draws = s.draws := rfl
@[simp] theorem State.setSp_script (v : Word) : (s.setSp v).script = s.script := rfl
@[simp] theorem State.setSp_busScript (v : Word) : (s.setSp v).busScript = s.busScript := rfl

/-! ### setPc -/

@[simp] theorem State.setPc_a (v : Word) : (s.setPc v).a = s.a := rfl
@[simp] theorem State.setPc_b (v : Word) : (s.setPc v).b = s.b := rfl
@[simp] theorem State.setPc_x (v : Word) : (s.setPc v).x = s.x := rfl
@[simp] theorem State.setPc_y (v : Word) : (s.setPc v).y = s.y := rfl
@[simp] theorem State.setPc_sp (v : Word) : (s.setPc v).sp = s.sp := rfl
@[simp] theorem State.setPc_pc (v : Word) : (s.setPc v).pc = v := rfl
@[simp] theorem State.setPc_ccr (v : Word) : (s.setPc v).ccr = s.ccr := rfl
@[simp] theorem State.setPc_mem (v : Word) : (s.setPc v).mem = s.mem := rfl
@[simp] theorem State.setPc_run (v : Word) : (s.setPc v).run = s.run := rfl
@[simp] theorem State.setPc_irqInhibit (v : Word) : (s.setPc v).irqInhibit = s.irqInhibit := rfl
@[simp] theorem State.setPc_lines (v : Word) : (s.setPc v).lines = s.lines := rfl
@[simp] theorem State.setPc_resets (v : Word) : (s.setPc v).resets = s.resets := rfl
@[simp] theorem State.setPc_io (v : Word) : (s.setPc v).io = s.io := rfl
@[simp] theorem State.setPc_events (v : Word) : (s.setPc v).events = s.events := rfl
@[simp] theorem State.setPc_cfg (v : Word) : (s.setPc v).cfg = s.cfg := rfl
@[simp] theorem State.setPc_draws (v : Word) : (s.setPc v).draws = s.draws := rfl
@[simp] theorem State.setPc_script (v : Word) : (s.setPc v).script = s.script := rfl
@[simp] theorem State.setPc_busScript (v : Word) : (s.setPc v).busScript = s.busScript := rfl

/-! ### setCcr -/

@[simp] theorem State.setCcr_a (v : Byte) : (s.setCcr v).a = s.a := rfl
@[simp] theorem State.setCcr_b (v : Byte) : (s.setCcr v).b = s.b := rfl
@[simp] theorem State.setCcr_x (v : Byte) : (s.setCcr v).x = s.x := rfl
@[simp] theorem State.setCcr_y (v : Byte) : (s.setCcr v).y = s.y := rfl
@[simp] theorem State.setCcr_sp (v : Byte) : (s.setCcr v).sp = s.sp := rfl
@[simp] theorem State.setCcr_pc (v : Byte) : (s.setCcr v).pc = s.pc := rfl
@[simp] theorem State.setCcr_ccr (v : Byte) : (s.setCcr v).ccr = v := rfl
@[simp] theorem State.setCcr_mem (v : Byte) : (s.setCcr v).mem = s.mem := rfl
@[simp] theorem State.setCcr_run (v : Byte) : (s.setCcr v).run = s.run := rfl
@[simp] theorem State.setCcr_irqInhibit (v : Byte) : (s.setCcr v).irqInhibit = s.irqInhibit := rfl
@[simp] theorem State.setCcr_lines (v : Byte) : (s.setCcr v).lines = s.lines := rfl
@[simp] theorem State.setCcr_resets (v : Byte) : (s.setCcr v).resets = s.resets := rfl
@[simp] theorem State.setCcr_io (v : Byte) : (s.setCcr v).io = s.io := rfl
@[simp] theorem State.setCcr_events (v : Byte) : (s.setCcr v).events = s.events := rfl
@[simp] theorem State.setCcr_cfg (v : Byte) : (s.setCcr v).cfg = s.cfg := rfl
@[simp] theorem State.setCcr_draws (v : Byte) : (s.setCcr v).draws = s.draws := rfl
@[simp] theorem State.setCcr_script (v : Byte) : (s.setCcr v).script = s.script := rfl
@[simp] theorem State.setCcr_busScript (v : Byte) : (s.setCcr v).busScript = s.busScript := rfl

/-! ### setMem -/

@[simp] theorem State.setMem_a (v : Memory) : (s.setMem v).a = s.a := rfl
@[simp] theorem State.setMem_b (v : Memory) : (s.setMem v).b = s.b := rfl
@[simp] theorem State.setMem_x (v : Memory) : (s.setMem v).x = s.x := rfl
@[simp] theorem State.setMem_y (v : Memory) : (s.setMem v).y = s.y := rfl
@[simp] theorem State.setMem_sp (v : Memory) : (s.setMem v).sp = s.sp := rfl
@[simp] theorem State.setMem_pc (v : Memory) : (s.setMem v).pc = s.pc := rfl
@[simp] theorem State.setMem_ccr (v : Memory) : (s.setMem v).ccr = s.ccr := rfl
@[simp] theorem State.setMem_mem (v : Memory) : (s.setMem v).mem = v := rfl
@[simp] theorem State.setMem_run (v : Memory) : (s.setMem v).run = s.run := rfl
@[simp] theorem State.setMem_irqInhibit (v : Memory) : (s.setMem v).irqInhibit = s.irqInhibit := rfl
@[simp] theorem State.setMem_lines (v : Memory) : (s.setMem v).lines = s.lines := rfl
@[simp] theorem State.setMem_resets (v : Memory) : (s.setMem v).resets = s.resets := rfl
@[simp] theorem State.setMem_io (v : Memory) : (s.setMem v).io = s.io := rfl
@[simp] theorem State.setMem_events (v : Memory) : (s.setMem v).events = s.events := rfl
@[simp] theorem State.setMem_cfg (v : Memory) : (s.setMem v).cfg = s.cfg := rfl
@[simp] theorem State.setMem_draws (v : Memory) : (s.setMem v).draws = s.draws := rfl
@[simp] theorem State.setMem_script (v : Memory) : (s.setMem v).script = s.script := rfl
@[simp] theorem State.setMem_busScript (v : Memory) : (s.setMem v).busScript = s.busScript := rfl

/-! ### setRun -/

@[simp] theorem State.setRun_a (v : RunState) : (s.setRun v).a = s.a := rfl
@[simp] theorem State.setRun_b (v : RunState) : (s.setRun v).b = s.b := rfl
@[simp] theorem State.setRun_x (v : RunState) : (s.setRun v).x = s.x := rfl
@[simp] theorem State.setRun_y (v : RunState) : (s.setRun v).y = s.y := rfl
@[simp] theorem State.setRun_sp (v : RunState) : (s.setRun v).sp = s.sp := rfl
@[simp] theorem State.setRun_pc (v : RunState) : (s.setRun v).pc = s.pc := rfl
@[simp] theorem State.setRun_ccr (v : RunState) : (s.setRun v).ccr = s.ccr := rfl
@[simp] theorem State.setRun_mem (v : RunState) : (s.setRun v).mem = s.mem := rfl
@[simp] theorem State.setRun_run (v : RunState) : (s.setRun v).run = v := rfl
@[simp] theorem State.setRun_irqInhibit (v : RunState) : (s.setRun v).irqInhibit = s.irqInhibit := rfl
@[simp] theorem State.setRun_lines (v : RunState) : (s.setRun v).lines = s.lines := rfl
@[simp] theorem State.setRun_resets (v : RunState) : (s.setRun v).resets = s.resets := rfl
@[simp] theorem State.setRun_io (v : RunState) : (s.setRun v).io = s.io := rfl
@[simp] theorem State.setRun_events (v : RunState) : (s.setRun v).events = s.events := rfl
@[simp] theorem State.setRun_cfg (v : RunState) : (s.setRun v).cfg = s.cfg := rfl
@[simp] theorem State.setRun_draws (v : RunState) : (s.setRun v).draws = s.draws := rfl
@[simp] theorem State.setRun_script (v : RunState) : (s.setRun v).script = s.script := rfl
@[simp] theorem State.setRun_busScript (v : RunState) : (s.setRun v).busScript = s.busScript := rfl

/-! ### setIrqInhibit -/

@[simp] theorem State.setIrqInhibit_a (v : Bool) : (s.setIrqInhibit v).a = s.a := rfl
@[simp] theorem State.setIrqInhibit_b (v : Bool) : (s.setIrqInhibit v).b = s.b := rfl
@[simp] theorem State.setIrqInhibit_x (v : Bool) : (s.setIrqInhibit v).x = s.x := rfl
@[simp] theorem State.setIrqInhibit_y (v : Bool) : (s.setIrqInhibit v).y = s.y := rfl
@[simp] theorem State.setIrqInhibit_sp (v : Bool) : (s.setIrqInhibit v).sp = s.sp := rfl
@[simp] theorem State.setIrqInhibit_pc (v : Bool) : (s.setIrqInhibit v).pc = s.pc := rfl
@[simp] theorem State.setIrqInhibit_ccr (v : Bool) : (s.setIrqInhibit v).ccr = s.ccr := rfl
@[simp] theorem State.setIrqInhibit_mem (v : Bool) : (s.setIrqInhibit v).mem = s.mem := rfl
@[simp] theorem State.setIrqInhibit_run (v : Bool) : (s.setIrqInhibit v).run = s.run := rfl
@[simp] theorem State.setIrqInhibit_irqInhibit (v : Bool) : (s.setIrqInhibit v).irqInhibit = v := rfl
@[simp] theorem State.setIrqInhibit_lines (v : Bool) : (s.setIrqInhibit v).lines = s.lines := rfl
@[simp] theorem State.setIrqInhibit_resets (v : Bool) : (s.setIrqInhibit v).resets = s.resets := rfl
@[simp] theorem State.setIrqInhibit_io (v : Bool) : (s.setIrqInhibit v).io = s.io := rfl
@[simp] theorem State.setIrqInhibit_events (v : Bool) : (s.setIrqInhibit v).events = s.events := rfl
@[simp] theorem State.setIrqInhibit_cfg (v : Bool) : (s.setIrqInhibit v).cfg = s.cfg := rfl
@[simp] theorem State.setIrqInhibit_draws (v : Bool) : (s.setIrqInhibit v).draws = s.draws := rfl
@[simp] theorem State.setIrqInhibit_script (v : Bool) : (s.setIrqInhibit v).script = s.script := rfl
@[simp] theorem State.setIrqInhibit_busScript (v : Bool) : (s.setIrqInhibit v).busScript = s.busScript := rfl

/-! ### setLines -/

@[simp] theorem State.setLines_a (v : List Line) : (s.setLines v).a = s.a := rfl
@[simp] theorem State.setLines_b (v : List Line) : (s.setLines v).b = s.b := rfl
@[simp] theorem State.setLines_x (v : List Line) : (s.setLines v).x = s.x := rfl
@[simp] theorem State.setLines_y (v : List Line) : (s.setLines v).y = s.y := rfl
@[simp] theorem State.setLines_sp (v : List Line) : (s.setLines v).sp = s.sp := rfl
@[simp] theorem State.setLines_pc (v : List Line) : (s.setLines v).pc = s.pc := rfl
@[simp] theorem State.setLines_ccr (v : List Line) : (s.setLines v).ccr = s.ccr := rfl
@[simp] theorem State.setLines_mem (v : List Line) : (s.setLines v).mem = s.mem := rfl
@[simp] theorem State.setLines_run (v : List Line) : (s.setLines v).run = s.run := rfl
@[simp] theorem State.setLines_irqInhibit (v : List Line) : (s.setLines v).irqInhibit = s.irqInhibit := rfl
@[simp] theorem State.setLines_lines (v : List Line) : (s.setLines v).lines = v := rfl
@[simp] theorem State.setLines_resets (v : List Line) : (s.setLines v).resets = s.resets := rfl
@[simp] theorem State.setLines_io (v : List Line) : (s.setLines v).io = s.io := rfl
@[simp] theorem State.setLines_events (v : List Line) : (s.setLines v).events = s.events := rfl
@[simp] theorem State.setLines_cfg (v : List Line) : (s.setLines v).cfg = s.cfg := rfl
@[simp] theorem State.setLines_draws (v : List Line) : (s.setLines v).draws = s.draws := rfl
@[simp] theorem State.setLines_script (v : List Line) : (s.setLines v).script = s.script := rfl
@[simp] theorem State.setLines_busScript (v : List Line) : (s.setLines v).busScript = s.busScript := rfl

/-! ### setResets -/

@[simp] theorem State.setResets_a (v : List ResetCause) : (s.setResets v).a = s.a := rfl
@[simp] theorem State.setResets_b (v : List ResetCause) : (s.setResets v).b = s.b := rfl
@[simp] theorem State.setResets_x (v : List ResetCause) : (s.setResets v).x = s.x := rfl
@[simp] theorem State.setResets_y (v : List ResetCause) : (s.setResets v).y = s.y := rfl
@[simp] theorem State.setResets_sp (v : List ResetCause) : (s.setResets v).sp = s.sp := rfl
@[simp] theorem State.setResets_pc (v : List ResetCause) : (s.setResets v).pc = s.pc := rfl
@[simp] theorem State.setResets_ccr (v : List ResetCause) : (s.setResets v).ccr = s.ccr := rfl
@[simp] theorem State.setResets_mem (v : List ResetCause) : (s.setResets v).mem = s.mem := rfl
@[simp] theorem State.setResets_run (v : List ResetCause) : (s.setResets v).run = s.run := rfl
@[simp] theorem State.setResets_irqInhibit (v : List ResetCause) : (s.setResets v).irqInhibit = s.irqInhibit := rfl
@[simp] theorem State.setResets_lines (v : List ResetCause) : (s.setResets v).lines = s.lines := rfl
@[simp] theorem State.setResets_resets (v : List ResetCause) : (s.setResets v).resets = v := rfl
@[simp] theorem State.setResets_io (v : List ResetCause) : (s.setResets v).io = s.io := rfl
@[simp] theorem State.setResets_events (v : List ResetCause) : (s.setResets v).events = s.events := rfl
@[simp] theorem State.setResets_cfg (v : List ResetCause) : (s.setResets v).cfg = s.cfg := rfl
@[simp] theorem State.setResets_draws (v : List ResetCause) : (s.setResets v).draws = s.draws := rfl
@[simp] theorem State.setResets_script (v : List ResetCause) : (s.setResets v).script = s.script := rfl
@[simp] theorem State.setResets_busScript (v : List ResetCause) : (s.setResets v).busScript = s.busScript := rfl

/-! ### setIo -/

@[simp] theorem State.setIo_a (v : IoRegs) : (s.setIo v).a = s.a := rfl
@[simp] theorem State.setIo_b (v : IoRegs) : (s.setIo v).b = s.b := rfl
@[simp] theorem State.setIo_x (v : IoRegs) : (s.setIo v).x = s.x := rfl
@[simp] theorem State.setIo_y (v : IoRegs) : (s.setIo v).y = s.y := rfl
@[simp] theorem State.setIo_sp (v : IoRegs) : (s.setIo v).sp = s.sp := rfl
@[simp] theorem State.setIo_pc (v : IoRegs) : (s.setIo v).pc = s.pc := rfl
@[simp] theorem State.setIo_ccr (v : IoRegs) : (s.setIo v).ccr = s.ccr := rfl
@[simp] theorem State.setIo_mem (v : IoRegs) : (s.setIo v).mem = s.mem := rfl
@[simp] theorem State.setIo_run (v : IoRegs) : (s.setIo v).run = s.run := rfl
@[simp] theorem State.setIo_irqInhibit (v : IoRegs) : (s.setIo v).irqInhibit = s.irqInhibit := rfl
@[simp] theorem State.setIo_lines (v : IoRegs) : (s.setIo v).lines = s.lines := rfl
@[simp] theorem State.setIo_resets (v : IoRegs) : (s.setIo v).resets = s.resets := rfl
@[simp] theorem State.setIo_io (v : IoRegs) : (s.setIo v).io = v := rfl
@[simp] theorem State.setIo_events (v : IoRegs) : (s.setIo v).events = s.events := rfl
@[simp] theorem State.setIo_cfg (v : IoRegs) : (s.setIo v).cfg = s.cfg := rfl
@[simp] theorem State.setIo_draws (v : IoRegs) : (s.setIo v).draws = s.draws := rfl
@[simp] theorem State.setIo_script (v : IoRegs) : (s.setIo v).script = s.script := rfl
@[simp] theorem State.setIo_busScript (v : IoRegs) : (s.setIo v).busScript = s.busScript := rfl

/-! ### setEvents -/

@[simp] theorem State.setEvents_a (v : List IoEvent) : (s.setEvents v).a = s.a := rfl
@[simp] theorem State.setEvents_b (v : List IoEvent) : (s.setEvents v).b = s.b := rfl
@[simp] theorem State.setEvents_x (v : List IoEvent) : (s.setEvents v).x = s.x := rfl
@[simp] theorem State.setEvents_y (v : List IoEvent) : (s.setEvents v).y = s.y := rfl
@[simp] theorem State.setEvents_sp (v : List IoEvent) : (s.setEvents v).sp = s.sp := rfl
@[simp] theorem State.setEvents_pc (v : List IoEvent) : (s.setEvents v).pc = s.pc := rfl
@[simp] theorem State.setEvents_ccr (v : List IoEvent) : (s.setEvents v).ccr = s.ccr := rfl
@[simp] theorem State.setEvents_mem (v : List IoEvent) : (s.setEvents v).mem = s.mem := rfl
@[simp] theorem State.setEvents_run (v : List IoEvent) : (s.setEvents v).run = s.run := rfl
@[simp] theorem State.setEvents_irqInhibit (v : List IoEvent) : (s.setEvents v).irqInhibit = s.irqInhibit := rfl
@[simp] theorem State.setEvents_lines (v : List IoEvent) : (s.setEvents v).lines = s.lines := rfl
@[simp] theorem State.setEvents_resets (v : List IoEvent) : (s.setEvents v).resets = s.resets := rfl
@[simp] theorem State.setEvents_io (v : List IoEvent) : (s.setEvents v).io = s.io := rfl
@[simp] theorem State.setEvents_events (v : List IoEvent) : (s.setEvents v).events = v := rfl
@[simp] theorem State.setEvents_cfg (v : List IoEvent) : (s.setEvents v).cfg = s.cfg := rfl
@[simp] theorem State.setEvents_draws (v : List IoEvent) : (s.setEvents v).draws = s.draws := rfl
@[simp] theorem State.setEvents_script (v : List IoEvent) : (s.setEvents v).script = s.script := rfl
@[simp] theorem State.setEvents_busScript (v : List IoEvent) : (s.setEvents v).busScript = s.busScript := rfl

/-! ### setCfg -/

@[simp] theorem State.setCfg_a (v : Config.Params) : (s.setCfg v).a = s.a := rfl
@[simp] theorem State.setCfg_b (v : Config.Params) : (s.setCfg v).b = s.b := rfl
@[simp] theorem State.setCfg_x (v : Config.Params) : (s.setCfg v).x = s.x := rfl
@[simp] theorem State.setCfg_y (v : Config.Params) : (s.setCfg v).y = s.y := rfl
@[simp] theorem State.setCfg_sp (v : Config.Params) : (s.setCfg v).sp = s.sp := rfl
@[simp] theorem State.setCfg_pc (v : Config.Params) : (s.setCfg v).pc = s.pc := rfl
@[simp] theorem State.setCfg_ccr (v : Config.Params) : (s.setCfg v).ccr = s.ccr := rfl
@[simp] theorem State.setCfg_mem (v : Config.Params) : (s.setCfg v).mem = s.mem := rfl
@[simp] theorem State.setCfg_run (v : Config.Params) : (s.setCfg v).run = s.run := rfl
@[simp] theorem State.setCfg_irqInhibit (v : Config.Params) : (s.setCfg v).irqInhibit = s.irqInhibit := rfl
@[simp] theorem State.setCfg_lines (v : Config.Params) : (s.setCfg v).lines = s.lines := rfl
@[simp] theorem State.setCfg_resets (v : Config.Params) : (s.setCfg v).resets = s.resets := rfl
@[simp] theorem State.setCfg_io (v : Config.Params) : (s.setCfg v).io = s.io := rfl
@[simp] theorem State.setCfg_events (v : Config.Params) : (s.setCfg v).events = s.events := rfl
@[simp] theorem State.setCfg_cfg (v : Config.Params) : (s.setCfg v).cfg = v := rfl
@[simp] theorem State.setCfg_draws (v : Config.Params) : (s.setCfg v).draws = s.draws := rfl
@[simp] theorem State.setCfg_script (v : Config.Params) : (s.setCfg v).script = s.script := rfl
@[simp] theorem State.setCfg_busScript (v : Config.Params) : (s.setCfg v).busScript = s.busScript := rfl

/-! ### setDraws -/

@[simp] theorem State.setDraws_a (v : Nat) : (s.setDraws v).a = s.a := rfl
@[simp] theorem State.setDraws_b (v : Nat) : (s.setDraws v).b = s.b := rfl
@[simp] theorem State.setDraws_x (v : Nat) : (s.setDraws v).x = s.x := rfl
@[simp] theorem State.setDraws_y (v : Nat) : (s.setDraws v).y = s.y := rfl
@[simp] theorem State.setDraws_sp (v : Nat) : (s.setDraws v).sp = s.sp := rfl
@[simp] theorem State.setDraws_pc (v : Nat) : (s.setDraws v).pc = s.pc := rfl
@[simp] theorem State.setDraws_ccr (v : Nat) : (s.setDraws v).ccr = s.ccr := rfl
@[simp] theorem State.setDraws_mem (v : Nat) : (s.setDraws v).mem = s.mem := rfl
@[simp] theorem State.setDraws_run (v : Nat) : (s.setDraws v).run = s.run := rfl
@[simp] theorem State.setDraws_irqInhibit (v : Nat) : (s.setDraws v).irqInhibit = s.irqInhibit := rfl
@[simp] theorem State.setDraws_lines (v : Nat) : (s.setDraws v).lines = s.lines := rfl
@[simp] theorem State.setDraws_resets (v : Nat) : (s.setDraws v).resets = s.resets := rfl
@[simp] theorem State.setDraws_io (v : Nat) : (s.setDraws v).io = s.io := rfl
@[simp] theorem State.setDraws_events (v : Nat) : (s.setDraws v).events = s.events := rfl
@[simp] theorem State.setDraws_cfg (v : Nat) : (s.setDraws v).cfg = s.cfg := rfl
@[simp] theorem State.setDraws_draws (v : Nat) : (s.setDraws v).draws = v := rfl
@[simp] theorem State.setDraws_script (v : Nat) : (s.setDraws v).script = s.script := rfl
@[simp] theorem State.setDraws_busScript (v : Nat) : (s.setDraws v).busScript = s.busScript := rfl

/-! ### setScript -/

@[simp] theorem State.setScript_a (v : List (List EnvEvent)) : (s.setScript v).a = s.a := rfl
@[simp] theorem State.setScript_b (v : List (List EnvEvent)) : (s.setScript v).b = s.b := rfl
@[simp] theorem State.setScript_x (v : List (List EnvEvent)) : (s.setScript v).x = s.x := rfl
@[simp] theorem State.setScript_y (v : List (List EnvEvent)) : (s.setScript v).y = s.y := rfl
@[simp] theorem State.setScript_sp (v : List (List EnvEvent)) : (s.setScript v).sp = s.sp := rfl
@[simp] theorem State.setScript_pc (v : List (List EnvEvent)) : (s.setScript v).pc = s.pc := rfl
@[simp] theorem State.setScript_ccr (v : List (List EnvEvent)) : (s.setScript v).ccr = s.ccr := rfl
@[simp] theorem State.setScript_mem (v : List (List EnvEvent)) : (s.setScript v).mem = s.mem := rfl
@[simp] theorem State.setScript_run (v : List (List EnvEvent)) : (s.setScript v).run = s.run := rfl
@[simp] theorem State.setScript_irqInhibit (v : List (List EnvEvent)) : (s.setScript v).irqInhibit = s.irqInhibit := rfl
@[simp] theorem State.setScript_lines (v : List (List EnvEvent)) : (s.setScript v).lines = s.lines := rfl
@[simp] theorem State.setScript_resets (v : List (List EnvEvent)) : (s.setScript v).resets = s.resets := rfl
@[simp] theorem State.setScript_io (v : List (List EnvEvent)) : (s.setScript v).io = s.io := rfl
@[simp] theorem State.setScript_events (v : List (List EnvEvent)) : (s.setScript v).events = s.events := rfl
@[simp] theorem State.setScript_cfg (v : List (List EnvEvent)) : (s.setScript v).cfg = s.cfg := rfl
@[simp] theorem State.setScript_draws (v : List (List EnvEvent)) : (s.setScript v).draws = s.draws := rfl
@[simp] theorem State.setScript_script (v : List (List EnvEvent)) : (s.setScript v).script = v := rfl
@[simp] theorem State.setScript_busScript (v : List (List EnvEvent)) : (s.setScript v).busScript = s.busScript := rfl

/-! ### setBusScript -/

@[simp] theorem State.setBusScript_a (v : List (List TimerEvent)) : (s.setBusScript v).a = s.a := rfl
@[simp] theorem State.setBusScript_b (v : List (List TimerEvent)) : (s.setBusScript v).b = s.b := rfl
@[simp] theorem State.setBusScript_x (v : List (List TimerEvent)) : (s.setBusScript v).x = s.x := rfl
@[simp] theorem State.setBusScript_y (v : List (List TimerEvent)) : (s.setBusScript v).y = s.y := rfl
@[simp] theorem State.setBusScript_sp (v : List (List TimerEvent)) : (s.setBusScript v).sp = s.sp := rfl
@[simp] theorem State.setBusScript_pc (v : List (List TimerEvent)) : (s.setBusScript v).pc = s.pc := rfl
@[simp] theorem State.setBusScript_ccr (v : List (List TimerEvent)) : (s.setBusScript v).ccr = s.ccr := rfl
@[simp] theorem State.setBusScript_mem (v : List (List TimerEvent)) : (s.setBusScript v).mem = s.mem := rfl
@[simp] theorem State.setBusScript_run (v : List (List TimerEvent)) : (s.setBusScript v).run = s.run := rfl
@[simp] theorem State.setBusScript_irqInhibit (v : List (List TimerEvent)) : (s.setBusScript v).irqInhibit = s.irqInhibit := rfl
@[simp] theorem State.setBusScript_lines (v : List (List TimerEvent)) : (s.setBusScript v).lines = s.lines := rfl
@[simp] theorem State.setBusScript_resets (v : List (List TimerEvent)) : (s.setBusScript v).resets = s.resets := rfl
@[simp] theorem State.setBusScript_io (v : List (List TimerEvent)) : (s.setBusScript v).io = s.io := rfl
@[simp] theorem State.setBusScript_events (v : List (List TimerEvent)) : (s.setBusScript v).events = s.events := rfl
@[simp] theorem State.setBusScript_cfg (v : List (List TimerEvent)) : (s.setBusScript v).cfg = s.cfg := rfl
@[simp] theorem State.setBusScript_draws (v : List (List TimerEvent)) : (s.setBusScript v).draws = s.draws := rfl
@[simp] theorem State.setBusScript_script (v : List (List TimerEvent)) : (s.setBusScript v).script = s.script := rfl
@[simp] theorem State.setBusScript_busScript (v : List (List TimerEvent)) : (s.setBusScript v).busScript = v := rfl

/-! ### setD, setFlag, setNZVC, setLogic -/

@[simp] theorem State.setD_a (v : Word) : (s.setD v).a = hi v := rfl
@[simp] theorem State.setD_b (v : Word) : (s.setD v).b = lo v := rfl
@[simp] theorem State.setD_x (v : Word) : (s.setD v).x = s.x := rfl
@[simp] theorem State.setD_y (v : Word) : (s.setD v).y = s.y := rfl
@[simp] theorem State.setD_sp (v : Word) : (s.setD v).sp = s.sp := rfl
@[simp] theorem State.setD_pc (v : Word) : (s.setD v).pc = s.pc := rfl
@[simp] theorem State.setD_ccr (v : Word) : (s.setD v).ccr = s.ccr := rfl
@[simp] theorem State.setD_mem (v : Word) : (s.setD v).mem = s.mem := rfl
@[simp] theorem State.setD_run (v : Word) : (s.setD v).run = s.run := rfl
@[simp] theorem State.setD_irqInhibit (v : Word) : (s.setD v).irqInhibit = s.irqInhibit := rfl
@[simp] theorem State.setD_lines (v : Word) : (s.setD v).lines = s.lines := rfl
@[simp] theorem State.setD_resets (v : Word) : (s.setD v).resets = s.resets := rfl
@[simp] theorem State.setD_io (v : Word) : (s.setD v).io = s.io := rfl
@[simp] theorem State.setD_events (v : Word) : (s.setD v).events = s.events := rfl
@[simp] theorem State.setD_cfg (v : Word) : (s.setD v).cfg = s.cfg := rfl
@[simp] theorem State.setD_draws (v : Word) : (s.setD v).draws = s.draws := rfl
@[simp] theorem State.setD_script (v : Word) : (s.setD v).script = s.script := rfl
@[simp] theorem State.setD_busScript (v : Word) : (s.setD v).busScript = s.busScript := rfl

@[simp] theorem State.setFlag_a (f : Flag) (v : Bool) : (s.setFlag f v).a = s.a := rfl
@[simp] theorem State.setFlag_b (f : Flag) (v : Bool) : (s.setFlag f v).b = s.b := rfl
@[simp] theorem State.setFlag_x (f : Flag) (v : Bool) : (s.setFlag f v).x = s.x := rfl
@[simp] theorem State.setFlag_y (f : Flag) (v : Bool) : (s.setFlag f v).y = s.y := rfl
@[simp] theorem State.setFlag_sp (f : Flag) (v : Bool) : (s.setFlag f v).sp = s.sp := rfl
@[simp] theorem State.setFlag_pc (f : Flag) (v : Bool) : (s.setFlag f v).pc = s.pc := rfl
@[simp] theorem State.setFlag_ccr (f : Flag) (v : Bool) : (s.setFlag f v).ccr = ccrSet s.ccr f v := rfl
@[simp] theorem State.setFlag_mem (f : Flag) (v : Bool) : (s.setFlag f v).mem = s.mem := rfl
@[simp] theorem State.setFlag_run (f : Flag) (v : Bool) : (s.setFlag f v).run = s.run := rfl
@[simp] theorem State.setFlag_irqInhibit (f : Flag) (v : Bool) : (s.setFlag f v).irqInhibit = s.irqInhibit := rfl
@[simp] theorem State.setFlag_lines (f : Flag) (v : Bool) : (s.setFlag f v).lines = s.lines := rfl
@[simp] theorem State.setFlag_resets (f : Flag) (v : Bool) : (s.setFlag f v).resets = s.resets := rfl
@[simp] theorem State.setFlag_io (f : Flag) (v : Bool) : (s.setFlag f v).io = s.io := rfl
@[simp] theorem State.setFlag_events (f : Flag) (v : Bool) : (s.setFlag f v).events = s.events := rfl
@[simp] theorem State.setFlag_cfg (f : Flag) (v : Bool) : (s.setFlag f v).cfg = s.cfg := rfl
@[simp] theorem State.setFlag_draws (f : Flag) (v : Bool) : (s.setFlag f v).draws = s.draws := rfl
@[simp] theorem State.setFlag_script (f : Flag) (v : Bool) : (s.setFlag f v).script = s.script := rfl
@[simp] theorem State.setFlag_busScript (f : Flag) (v : Bool) : (s.setFlag f v).busScript = s.busScript := rfl

variable {w : Nat}

@[simp] theorem State.setNZVC_a (f : Arith w) : (s.setNZVC f).a = s.a := rfl
@[simp] theorem State.setNZVC_b (f : Arith w) : (s.setNZVC f).b = s.b := rfl
@[simp] theorem State.setNZVC_x (f : Arith w) : (s.setNZVC f).x = s.x := rfl
@[simp] theorem State.setNZVC_y (f : Arith w) : (s.setNZVC f).y = s.y := rfl
@[simp] theorem State.setNZVC_sp (f : Arith w) : (s.setNZVC f).sp = s.sp := rfl
@[simp] theorem State.setNZVC_pc (f : Arith w) : (s.setNZVC f).pc = s.pc := rfl
@[simp] theorem State.setNZVC_ccr (f : Arith w) : (s.setNZVC f).ccr = ccrNZVC s.ccr f := rfl
@[simp] theorem State.setNZVC_mem (f : Arith w) : (s.setNZVC f).mem = s.mem := rfl
@[simp] theorem State.setNZVC_run (f : Arith w) : (s.setNZVC f).run = s.run := rfl
@[simp] theorem State.setNZVC_irqInhibit (f : Arith w) : (s.setNZVC f).irqInhibit = s.irqInhibit := rfl
@[simp] theorem State.setNZVC_lines (f : Arith w) : (s.setNZVC f).lines = s.lines := rfl
@[simp] theorem State.setNZVC_resets (f : Arith w) : (s.setNZVC f).resets = s.resets := rfl
@[simp] theorem State.setNZVC_io (f : Arith w) : (s.setNZVC f).io = s.io := rfl
@[simp] theorem State.setNZVC_events (f : Arith w) : (s.setNZVC f).events = s.events := rfl
@[simp] theorem State.setNZVC_cfg (f : Arith w) : (s.setNZVC f).cfg = s.cfg := rfl
@[simp] theorem State.setNZVC_draws (f : Arith w) : (s.setNZVC f).draws = s.draws := rfl
@[simp] theorem State.setNZVC_script (f : Arith w) : (s.setNZVC f).script = s.script := rfl
@[simp] theorem State.setNZVC_busScript (f : Arith w) : (s.setNZVC f).busScript = s.busScript := rfl

@[simp] theorem State.setLogic_a (r : BitVec w) : (s.setLogic r).a = s.a := rfl
@[simp] theorem State.setLogic_b (r : BitVec w) : (s.setLogic r).b = s.b := rfl
@[simp] theorem State.setLogic_x (r : BitVec w) : (s.setLogic r).x = s.x := rfl
@[simp] theorem State.setLogic_y (r : BitVec w) : (s.setLogic r).y = s.y := rfl
@[simp] theorem State.setLogic_sp (r : BitVec w) : (s.setLogic r).sp = s.sp := rfl
@[simp] theorem State.setLogic_pc (r : BitVec w) : (s.setLogic r).pc = s.pc := rfl
@[simp] theorem State.setLogic_ccr (r : BitVec w) : (s.setLogic r).ccr = ccrNZV s.ccr (flagN r) (flagZ r) false := rfl
@[simp] theorem State.setLogic_mem (r : BitVec w) : (s.setLogic r).mem = s.mem := rfl
@[simp] theorem State.setLogic_run (r : BitVec w) : (s.setLogic r).run = s.run := rfl
@[simp] theorem State.setLogic_irqInhibit (r : BitVec w) : (s.setLogic r).irqInhibit = s.irqInhibit := rfl
@[simp] theorem State.setLogic_lines (r : BitVec w) : (s.setLogic r).lines = s.lines := rfl
@[simp] theorem State.setLogic_resets (r : BitVec w) : (s.setLogic r).resets = s.resets := rfl
@[simp] theorem State.setLogic_io (r : BitVec w) : (s.setLogic r).io = s.io := rfl
@[simp] theorem State.setLogic_events (r : BitVec w) : (s.setLogic r).events = s.events := rfl
@[simp] theorem State.setLogic_cfg (r : BitVec w) : (s.setLogic r).cfg = s.cfg := rfl
@[simp] theorem State.setLogic_draws (r : BitVec w) : (s.setLogic r).draws = s.draws := rfl
@[simp] theorem State.setLogic_script (r : BitVec w) : (s.setLogic r).script = s.script := rfl
@[simp] theorem State.setLogic_busScript (r : BitVec w) : (s.setLogic r).busScript = s.busScript := rfl

/-! ### Flags and stored bytes read from a field -/

theorem State.flag_eq (f : Flag) : s.flag f = ccrGet s.ccr f := rfl

theorem State.stored_eq (a : Word) : s.stored a = s.mem.read a.toNat := rfl

theorem State.d_eq : s.d = cat16 s.a s.b := rfl

@[simp] theorem State.flag_setA (v : Byte) (f : Flag) : (s.setA v).flag f = s.flag f := rfl
@[simp] theorem State.flag_setB (v : Byte) (f : Flag) : (s.setB v).flag f = s.flag f := rfl
@[simp] theorem State.flag_setX (v : Word) (f : Flag) : (s.setX v).flag f = s.flag f := rfl
@[simp] theorem State.flag_setY (v : Word) (f : Flag) : (s.setY v).flag f = s.flag f := rfl
@[simp] theorem State.flag_setSp (v : Word) (f : Flag) : (s.setSp v).flag f = s.flag f := rfl
@[simp] theorem State.flag_setPc (v : Word) (f : Flag) : (s.setPc v).flag f = s.flag f := rfl
@[simp] theorem State.flag_setMem (v : Memory) (f : Flag) : (s.setMem v).flag f = s.flag f := rfl
@[simp] theorem State.flag_setRun (v : RunState) (f : Flag) : (s.setRun v).flag f = s.flag f := rfl
@[simp] theorem State.flag_setIrqInhibit (v : Bool) (f : Flag) : (s.setIrqInhibit v).flag f = s.flag f := rfl
@[simp] theorem State.flag_setLines (v : List Line) (f : Flag) : (s.setLines v).flag f = s.flag f := rfl
@[simp] theorem State.flag_setResets (v : List ResetCause) (f : Flag) : (s.setResets v).flag f = s.flag f := rfl
@[simp] theorem State.flag_setIo (v : IoRegs) (f : Flag) : (s.setIo v).flag f = s.flag f := rfl
@[simp] theorem State.flag_setEvents (v : List IoEvent) (f : Flag) : (s.setEvents v).flag f = s.flag f := rfl
@[simp] theorem State.flag_setCfg (v : Config.Params) (f : Flag) : (s.setCfg v).flag f = s.flag f := rfl
@[simp] theorem State.flag_setDraws (v : Nat) (f : Flag) : (s.setDraws v).flag f = s.flag f := rfl
@[simp] theorem State.flag_setScript (v : List (List EnvEvent)) (f : Flag) : (s.setScript v).flag f = s.flag f := rfl
@[simp] theorem State.flag_setBusScript (v : List (List TimerEvent)) (f : Flag) : (s.setBusScript v).flag f = s.flag f := rfl
@[simp] theorem State.stored_setA (v : Byte) (a : Word) : (s.setA v).stored a = s.stored a := rfl
@[simp] theorem State.stored_setB (v : Byte) (a : Word) : (s.setB v).stored a = s.stored a := rfl
@[simp] theorem State.stored_setX (v : Word) (a : Word) : (s.setX v).stored a = s.stored a := rfl
@[simp] theorem State.stored_setY (v : Word) (a : Word) : (s.setY v).stored a = s.stored a := rfl
@[simp] theorem State.stored_setSp (v : Word) (a : Word) : (s.setSp v).stored a = s.stored a := rfl
@[simp] theorem State.stored_setPc (v : Word) (a : Word) : (s.setPc v).stored a = s.stored a := rfl
@[simp] theorem State.stored_setCcr (v : Byte) (a : Word) : (s.setCcr v).stored a = s.stored a := rfl
@[simp] theorem State.stored_setRun (v : RunState) (a : Word) : (s.setRun v).stored a = s.stored a := rfl
@[simp] theorem State.stored_setIrqInhibit (v : Bool) (a : Word) : (s.setIrqInhibit v).stored a = s.stored a := rfl
@[simp] theorem State.stored_setLines (v : List Line) (a : Word) : (s.setLines v).stored a = s.stored a := rfl
@[simp] theorem State.stored_setResets (v : List ResetCause) (a : Word) : (s.setResets v).stored a = s.stored a := rfl
@[simp] theorem State.stored_setIo (v : IoRegs) (a : Word) : (s.setIo v).stored a = s.stored a := rfl
@[simp] theorem State.stored_setEvents (v : List IoEvent) (a : Word) : (s.setEvents v).stored a = s.stored a := rfl
@[simp] theorem State.stored_setCfg (v : Config.Params) (a : Word) : (s.setCfg v).stored a = s.stored a := rfl
@[simp] theorem State.stored_setDraws (v : Nat) (a : Word) : (s.setDraws v).stored a = s.stored a := rfl
@[simp] theorem State.stored_setScript (v : List (List EnvEvent)) (a : Word) : (s.setScript v).stored a = s.stored a := rfl
@[simp] theorem State.stored_setBusScript (v : List (List TimerEvent)) (a : Word) : (s.setBusScript v).stored a = s.stored a := rfl

@[simp] theorem State.stored_setD (v : Word) (a : Word) : (s.setD v).stored a = s.stored a := rfl
@[simp] theorem State.stored_setFlag (f : Flag) (v : Bool) (a : Word) : (s.setFlag f v).stored a = s.stored a := rfl
@[simp] theorem State.stored_setNZVC (f : Arith w) (a : Word) : (s.setNZVC f).stored a = s.stored a := rfl
@[simp] theorem State.stored_setLogic (r : BitVec w) (a : Word) : (s.setLogic r).stored a = s.stored a := rfl

/-! ### setAcc and setReg: the fields neither touches -/

@[simp] theorem State.setAcc_x (r : Acc) (v : Byte) : (s.setAcc r v).x = s.x := by cases r <;> rfl
@[simp] theorem State.setAcc_y (r : Acc) (v : Byte) : (s.setAcc r v).y = s.y := by cases r <;> rfl
@[simp] theorem State.setAcc_sp (r : Acc) (v : Byte) : (s.setAcc r v).sp = s.sp := by cases r <;> rfl
@[simp] theorem State.setAcc_pc (r : Acc) (v : Byte) : (s.setAcc r v).pc = s.pc := by cases r <;> rfl
@[simp] theorem State.setAcc_ccr (r : Acc) (v : Byte) : (s.setAcc r v).ccr = s.ccr := by cases r <;> rfl
@[simp] theorem State.setAcc_mem (r : Acc) (v : Byte) : (s.setAcc r v).mem = s.mem := by cases r <;> rfl
@[simp] theorem State.setAcc_run (r : Acc) (v : Byte) : (s.setAcc r v).run = s.run := by cases r <;> rfl
@[simp] theorem State.setAcc_irqInhibit (r : Acc) (v : Byte) : (s.setAcc r v).irqInhibit = s.irqInhibit := by cases r <;> rfl
@[simp] theorem State.setAcc_lines (r : Acc) (v : Byte) : (s.setAcc r v).lines = s.lines := by cases r <;> rfl
@[simp] theorem State.setAcc_resets (r : Acc) (v : Byte) : (s.setAcc r v).resets = s.resets := by cases r <;> rfl
@[simp] theorem State.setAcc_io (r : Acc) (v : Byte) : (s.setAcc r v).io = s.io := by cases r <;> rfl
@[simp] theorem State.setAcc_events (r : Acc) (v : Byte) : (s.setAcc r v).events = s.events := by cases r <;> rfl
@[simp] theorem State.setAcc_cfg (r : Acc) (v : Byte) : (s.setAcc r v).cfg = s.cfg := by cases r <;> rfl
@[simp] theorem State.setAcc_draws (r : Acc) (v : Byte) : (s.setAcc r v).draws = s.draws := by cases r <;> rfl
@[simp] theorem State.setAcc_script (r : Acc) (v : Byte) : (s.setAcc r v).script = s.script := by cases r <;> rfl
@[simp] theorem State.setAcc_busScript (r : Acc) (v : Byte) : (s.setAcc r v).busScript = s.busScript := by cases r <;> rfl

@[simp] theorem State.setReg_pc (r : Reg16) (v : Word) : (s.setReg r v).pc = s.pc := by cases r <;> rfl
@[simp] theorem State.setReg_ccr (r : Reg16) (v : Word) : (s.setReg r v).ccr = s.ccr := by cases r <;> rfl
@[simp] theorem State.setReg_mem (r : Reg16) (v : Word) : (s.setReg r v).mem = s.mem := by cases r <;> rfl
@[simp] theorem State.setReg_run (r : Reg16) (v : Word) : (s.setReg r v).run = s.run := by cases r <;> rfl
@[simp] theorem State.setReg_irqInhibit (r : Reg16) (v : Word) : (s.setReg r v).irqInhibit = s.irqInhibit := by cases r <;> rfl
@[simp] theorem State.setReg_lines (r : Reg16) (v : Word) : (s.setReg r v).lines = s.lines := by cases r <;> rfl
@[simp] theorem State.setReg_resets (r : Reg16) (v : Word) : (s.setReg r v).resets = s.resets := by cases r <;> rfl
@[simp] theorem State.setReg_io (r : Reg16) (v : Word) : (s.setReg r v).io = s.io := by cases r <;> rfl
@[simp] theorem State.setReg_events (r : Reg16) (v : Word) : (s.setReg r v).events = s.events := by cases r <;> rfl
@[simp] theorem State.setReg_cfg (r : Reg16) (v : Word) : (s.setReg r v).cfg = s.cfg := by cases r <;> rfl
@[simp] theorem State.setReg_draws (r : Reg16) (v : Word) : (s.setReg r v).draws = s.draws := by cases r <;> rfl
@[simp] theorem State.setReg_script (r : Reg16) (v : Word) : (s.setReg r v).script = s.script := by cases r <;> rfl
@[simp] theorem State.setReg_busScript (r : Reg16) (v : Word) : (s.setReg r v).busScript = s.busScript := by cases r <;> rfl

@[simp] theorem State.acc_setAcc (r : Acc) (v : Byte) : (s.setAcc r v).acc r = v := by cases r <;> rfl

end Sys2Proof.Machine
end

