-- ==== Sys2Proof/Laws/Flags.lean ====
section
/-! SUPPORT. The bits of CCR after each flag write. -/

namespace Sys2Proof.Machine

@[simp] theorem ccrGet_ccrSet_same (c : Byte) (f : Flag) (v : Bool) : ccrGet (ccrSet c f v) f = v := by
  cases f <;> cases v <;> simp [ccrGet, ccrSet, Flag.bit, Flag.mask]

@[simp] theorem ccrGet_ccrSet_ne (c : Byte) {f g : Flag} (v : Bool) (h : g ≠ f) :
    ccrGet (ccrSet c f v) g = ccrGet c g := by
  cases f <;> cases g <;> first | exact absurd rfl h | (cases v <;> simp [ccrGet, ccrSet, Flag.bit, Flag.mask])

theorem ccrGet_ccrSet (c : Byte) (f g : Flag) (v : Bool) :
    ccrGet (ccrSet c f v) g = if g = f then v else ccrGet c g := by
  split
  · next h => subst h; exact ccrGet_ccrSet_same c g v
  · next h => exact ccrGet_ccrSet_ne c v h

/-- A CCR value is its eight flags. -/
theorem ccr_ext {c d : Byte} (h : ∀ f, ccrGet c f = ccrGet d f) : c = d := by
  apply BitVec.eq_of_getLsbD_eq
  intro i hi
  have h7 := h .s; have h6 := h .x; have h5 := h .h; have h4 := h .i
  have h3 := h .n; have h2 := h .z; have h1 := h .v; have h0 := h .c
  simp only [ccrGet, Flag.bit] at *
  interval_cases i <;> assumption

@[simp] theorem ccrGet_ccrNZV (c : Byte) (n z v : Bool) (f : Flag) :
    ccrGet (ccrNZV c n z v) f =
      match f with
      | .n => n
      | .z => z
      | .v => v
      | g => ccrGet c g := by
  cases f <;> simp [ccrNZV]

@[simp] theorem ccrGet_ccrNZVC {w : Nat} (c : Byte) (r : Arith w) (f : Flag) :
    ccrGet (ccrNZVC c r) f =
      match f with
      | .n => r.n
      | .z => r.z
      | .v => r.v
      | .c => r.c
      | g => ccrGet c g := by
  cases f <;> simp [ccrNZVC]

/-- TAP and RTI: X can only go from 1 to 0, the other bits are the new ones (R29). -/
@[simp] theorem ccrGet_ccrLoad (old new : Byte) (f : Flag) :
    ccrGet (ccrLoad old new) f = if f = .x then ccrGet old .x && ccrGet new .x else ccrGet new f := by
  cases f <;> simp [ccrLoad, ccrGet, Flag.bit, Bool.and_comm]

@[simp] theorem State.flag_setCcr (s : State) (v : Byte) (f : Flag) : (s.setCcr v).flag f = ccrGet v f := rfl

@[simp] theorem State.flag_setFlag (s : State) (f g : Flag) (v : Bool) :
    (s.setFlag f v).flag g = if g = f then v else s.flag g := ccrGet_ccrSet s.ccr f g v

@[simp] theorem State.flag_setNZVC {w : Nat} (s : State) (r : Arith w) (f : Flag) :
    (s.setNZVC r).flag f =
      match f with
      | .n => r.n
      | .z => r.z
      | .v => r.v
      | .c => r.c
      | g => s.flag g := ccrGet_ccrNZVC s.ccr r f

@[simp] theorem State.flag_setLogic {w : Nat} (s : State) (r : BitVec w) (f : Flag) :
    (s.setLogic r).flag f =
      match f with
      | .n => flagN r
      | .z => flagZ r
      | .v => false
      | g => s.flag g := ccrGet_ccrNZV s.ccr _ _ _ f

@[simp] theorem State.flag_setD (s : State) (v : Word) (f : Flag) : (s.setD v).flag f = s.flag f := rfl

@[simp] theorem State.flag_setAcc (s : State) (r : Acc) (v : Byte) (f : Flag) : (s.setAcc r v).flag f = s.flag f := by
  cases r <;> rfl

@[simp] theorem State.flag_setReg (s : State) (r : Reg16) (v : Word) (f : Flag) :
    (s.setReg r v).flag f = s.flag f := by
  cases r <;> rfl

/-- The masks of an entry: I is 1, X is 1 after XIRQ, the rest are kept (R455). -/
@[simp] theorem ccrGet_entryMask (src : TrapSource) (c : Byte) (f : Flag) :
    ccrGet (entryMask src c) f =
      if f = .i then true else if f = .x ∧ src = .xirq then true else ccrGet c f := by
  cases src <;> cases f <;> simp [entryMask]

/-! ### C kept by increment and decrement -/

@[simp] theorem incFlags_c (m : Byte) (c : Bool) : (incFlags m c).c = c := rfl

@[simp] theorem decFlags_c (m : Byte) (c : Bool) : (decFlags m c).c = c := rfl

end Sys2Proof.Machine
end

