-- ==== Sys2Proof/Laws/Memory.lean ====
section
/-! SUPPORT. Stored memory: what a read finds after a write, and that a write keeps the canonical form. -/

namespace Sys2Proof.Machine

theorem Memory.wf_nil : Memory.wf [] := by simp [Memory.wf]

/-- An address below every listed one reads as unlisted. -/
theorem Memory.read_of_lt {m : Memory} {a : Nat} (h : ∀ p ∈ m, a < p.1) : Memory.read m a = blankByte := by
  induction m with
  | nil => rfl
  | cons p t ih =>
    have hp := h p (by simp)
    rw [Memory.read, if_neg (by omega)]
    exact ih fun q hq => h q (List.mem_cons_of_mem _ hq)

theorem Memory.read_write_ne (m : Memory) (v : Byte) {a b : Nat} (h : b ≠ a) :
    (m.write a v).read b = m.read b := by
  induction m with
  | nil =>
    unfold Memory.write
    split
    · rfl
    · simp [Memory.read, Ne.symm h]
  | cons p t ih =>
    obtain ⟨k, w⟩ := p
    simp only [Memory.write]
    split
    · split
      · rfl
      · simp [Memory.read, Ne.symm h]
    · split
      · next e =>
        subst e
        split <;> simp [Memory.read, Ne.symm h]
      · simp only [Memory.read, ih]

theorem Memory.read_write_same {m : Memory} (hm : m.wf) (a : Nat) (v : Byte) : (m.write a v).read a = v := by
  induction m with
  | nil =>
    unfold Memory.write
    split
    · next e => simp [Memory.read, e]
    · simp [Memory.read]
  | cons p t ih =>
    obtain ⟨k, w⟩ := p
    obtain ⟨ho, hb⟩ := hm
    rw [List.pairwise_cons] at ho
    have ht : Memory.wf t := ⟨ho.2, fun q hq => hb q (List.mem_cons_of_mem _ hq)⟩
    simp only [Memory.write]
    split
    · next lt =>
      split
      · next e =>
        rw [Memory.read_of_lt, e]
        intro q hq
        rcases List.mem_cons.1 hq with rfl | hq
        · exact lt
        · exact Nat.lt_trans lt (ho.1 q hq)
      · simp [Memory.read]
    · split
      · next e =>
        subst e
        split
        · next e => rw [Memory.read_of_lt ho.1, e]
        · simp [Memory.read]
      · next ne =>
        rw [Memory.read, if_neg (Ne.symm ne)]
        exact ih ht

/-- The one law of a store: the address written reads the new byte, every other address what it did. -/
theorem Memory.read_write {m : Memory} (hm : m.wf) (a b : Nat) (v : Byte) :
    (m.write a v).read b = if b = a then v else m.read b := by
  split
  · next e => rw [e]; exact Memory.read_write_same hm a v
  · next ne => exact Memory.read_write_ne m v ne

theorem Memory.mem_write {m : Memory} {a : Nat} {v : Byte} {p : Host.Cell} (h : p ∈ m.write a v) :
    p ∈ m ∨ (p = (a, v) ∧ v ≠ blankByte) := by
  induction m with
  | nil =>
    unfold Memory.write at h
    split at h
    · simp at h
    · next ne => right; simp_all
  | cons q t ih =>
    obtain ⟨k, w⟩ := q
    simp only [Memory.write] at h
    split at h
    · split at h
      · exact .inl h
      · next ne => rcases List.mem_cons.1 h with rfl | h
                   · exact .inr ⟨rfl, ne⟩
                   · exact .inl h
    · split at h
      · split at h
        · exact .inl (List.mem_cons_of_mem _ h)
        · next ne => rcases List.mem_cons.1 h with rfl | h
                     · exact .inr ⟨rfl, ne⟩
                     · exact .inl (List.mem_cons_of_mem _ h)
      · rcases List.mem_cons.1 h with rfl | h
        · exact .inl (by simp)
        · rcases ih h with h | h
          · exact .inl (List.mem_cons_of_mem _ h)
          · exact .inr h

/-- A write keeps the canonical form. -/
theorem Memory.wf_write {m : Memory} (hm : m.wf) {a : Nat} (ha : a < 65536) (v : Byte) : (m.write a v).wf := by
  refine ⟨?_, fun p hp => ?_⟩
  · obtain ⟨ho, -⟩ := hm
    induction m with
    | nil => unfold Memory.write; split <;> simp
    | cons q t ih =>
      obtain ⟨k, w⟩ := q
      rw [List.pairwise_cons] at ho
      simp only [Memory.write]
      split
      · next lt =>
        split
        · exact List.pairwise_cons.2 ho
        · refine List.pairwise_cons.2 ⟨fun q hq => ?_, List.pairwise_cons.2 ho⟩
          rcases List.mem_cons.1 hq with rfl | hq
          · exact lt
          · exact Nat.lt_trans lt (ho.1 q hq)
      · split
        · next e =>
          subst e
          split
          · exact ho.2
          · exact List.pairwise_cons.2 ho
        · refine List.pairwise_cons.2 ⟨fun q hq => ?_, ih ho.2⟩
          rcases Memory.mem_write hq with hq | ⟨rfl, -⟩
          · exact ho.1 q hq
          · show k < a
            omega
  · rcases Memory.mem_write hp with h | ⟨rfl, ne⟩
    · exact hm.2 p h
    · exact ⟨ne, ha⟩

/-- Two memories in canonical form that read the same everywhere are equal. -/
theorem Memory.ext_read {m n : Memory} (hm : m.wf) (hn : n.wf) (h : ∀ a, m.read a = n.read a) : m = n := by
  induction m generalizing n with
  | nil =>
    cases n with
    | nil => rfl
    | cons p t =>
      have := h p.1
      simp only [Memory.read, if_true] at this
      exact absurd this.symm (hn.2 p (by simp)).1
  | cons p t ih =>
    have hpt := List.pairwise_cons.1 hm.1
    have wt : Memory.wf t := ⟨hpt.2, fun q hq => hm.2 q (List.mem_cons_of_mem _ hq)⟩
    cases n with
    | nil =>
      have := h p.1
      simp only [Memory.read, if_true] at this
      exact absurd this (hm.2 p (by simp)).1
    | cons q u =>
      have hqu := List.pairwise_cons.1 hn.1
      have wu : Memory.wf u := ⟨hqu.2, fun r hr => hn.2 r (List.mem_cons_of_mem _ hr)⟩
      have low : ∀ {r : Host.Cell} {l : Memory}, (∀ x ∈ l, r.1 < x.1) → Memory.read l r.1 = blankByte :=
        fun hl => Memory.read_of_lt hl
      have key : p.1 = q.1 := by
        rcases Nat.lt_trichotomy p.1 q.1 with lt | e | gt
        · exfalso
          have e := h p.1
          rw [Memory.read, if_pos rfl, Memory.read, if_neg (by omega)] at e
          rw [Memory.read_of_lt fun x hx => Nat.lt_trans lt (hqu.1 x hx)] at e
          exact (hm.2 p (by simp)).1 e
        · exact e
        · exfalso
          have e := h q.1
          rw [Memory.read, if_neg (by omega), Memory.read, if_pos rfl] at e
          rw [Memory.read_of_lt fun x hx => Nat.lt_trans gt (hpt.1 x hx)] at e
          exact (hn.2 q (by simp)).1 e.symm
      have val : p.2 = q.2 := by
        have e := h p.1
        rw [Memory.read, if_pos rfl, Memory.read, if_pos key.symm] at e
        exact e
      have tail : t = u := by
        apply ih wt wu
        intro a
        by_cases e : a = p.1
        · rw [e, low hpt.1, key, low hqu.1]
        · have := h a
          rwa [Memory.read, if_neg (Ne.symm e), Memory.read, if_neg (by rw [← key]; exact Ne.symm e)] at this
      rw [tail, Prod.ext key val]

/-! ### The machine's store -/

@[simp] theorem State.store_mem (s : State) (a : Word) (v : Byte) : (s.store a v).mem = s.mem.write a.toNat v := rfl

theorem State.stored_store {s : State} (h : s.mem.wf) (a b : Word) (v : Byte) :
    (s.store a v).stored b = if b = a then v else s.stored b := by
  rw [State.stored, State.store_mem, Memory.read_write h]
  simp only [BitVec.toNat_inj]
  rfl

theorem State.stored_store_ne (s : State) {a b : Word} (v : Byte) (h : b ≠ a) :
    (s.store a v).stored b = s.stored b :=
  Memory.read_write_ne s.mem v fun e => h (BitVec.eq_of_toNat_eq e)

theorem State.wf_store {s : State} (h : s.mem.wf) (a : Word) (v : Byte) : (s.store a v).mem.wf :=
  Memory.wf_write h a.isLt v

end Sys2Proof.Machine
end

