-- ==== Sys2Proof/Laws/Ops.lean ====
section
/-! SUPPORT. For each shared operation over memory and the stack: all it can change, field by field, and what it does to
a stored byte. -/

namespace Sys2Proof.Machine

open Sys2Proof.Config

/-! ### The register block -/

theorem ioGet_frame (n : IoName) (s : State) : (ioGet n s).2 = { s with draws := (ioGet n s).2.draws } := by
  cases n <;> rfl

theorem ioPut_frame (n : IoName) (v : Byte) (s : State) :
    ioPut n v s = { s with io := (ioPut n v s).io, draws := (ioPut n v s).draws } := by
  cases n <;> rfl

/-! ### The timer -/

theorem actAll_frame (v : Byte) (s : State) :
    actAll v s = { s with io := (actAll v s).io, draws := (actAll v s).draws } := rfl

/-- Where OC1 and the other compares give no pin different levels, no level is free. -/
theorem actAll_agree {v : Byte} {s : State} (h : clashPins v s.io = 0) :
    (actAll v s).io = actOne v .oc1 (actPairs v s.io) := by
  have keep : ∀ p l : Byte, (p &&& ~~~ (0 : Byte)) ||| (l &&& 0) = p := fun p l => by
    rw [show ~~~ (0 : Byte) = BitVec.allOnes 8 from rfl]; simp [-BitVec.reduceAllOnes]
  simp only [actAll, State.setIo_io, h, keep]

/-- An event in the timer changes only the register block and the count of free values. -/
theorem applyTimer_frame (e : TimerEvent) (s : State) :
    applyTimer e s = { s with io := (applyTimer e s).io, draws := (applyTimer e s).draws } := by
  unfold applyTimer
  split
  · rfl
  · cases e with
    | count n => rfl
    | capture n k c => dsimp only; split <;> rfl

theorem applyTimers_frame (es : List TimerEvent) (s : State) :
    applyTimers es s = { s with io := (applyTimers es s).io, draws := (applyTimers es s).draws } := by
  induction es generalizing s with
  | nil => rfl
  | cons e t ih =>
    simp only [applyTimers]
    rw [ih, applyTimer_frame]

/-- While the machine is stopped nothing happens in the timer. -/
theorem applyTimer_stopped {s : State} (h : s.run = .stopped) (e : TimerEvent) : applyTimer e s = s := if_pos h

/-- The timer's turn before an I/O access changes only the register block, the count of free values and its script. -/
theorem busTurn_frame (s : State) :
    busTurn s =
      { s with io := (busTurn s).io, draws := (busTurn s).draws, busScript := (busTurn s).busScript } := by
  unfold busTurn
  split
  · rfl
  · rw [applyTimers_frame]; rfl

/-- No event is left in the timer's script. -/
theorem busTurn_nil {s : State} (h : s.busScript = []) : busTurn s = s := by
  unfold busTurn; rw [h]

theorem applyTimer_clocked {s : State} (h : s.run ≠ .stopped) (e : TimerEvent) :
    applyTimer e s =
      match e with
      | .count count => raiseFlags (matchMask s.io count) (actAll (matchMask s.io count) s)
      | .capture n k count =>
        if detects (captureSelect s.cfg.tctl2Layout s.io.tctl2 n) k then
          raiseFlags (bitMask (captureBit n)) (s.setIo (latch s.io count n))
        else s := if_neg h

theorem applyTimer_setSp (e : TimerEvent) (s : State) (p : Word) :
    applyTimer e (s.setSp p) = (applyTimer e s).setSp p := by
  by_cases h : s.run = .stopped
  · rw [applyTimer_stopped h, applyTimer_stopped (s := s.setSp p) h]
  · rw [applyTimer_clocked h, applyTimer_clocked (s := s.setSp p) h]
    cases e with
    | count n => rfl
    | capture n k c =>
      exact (apply_ite (fun u : State => u.setSp p) (detects (captureSelect s.cfg.tctl2Layout s.io.tctl2 n) k = true)
        (raiseFlags (bitMask (captureBit n)) (s.setIo (latch s.io c n))) s).symm

theorem applyTimers_setSp (es : List TimerEvent) (s : State) (p : Word) :
    applyTimers es (s.setSp p) = (applyTimers es s).setSp p := by
  induction es generalizing s with
  | nil => rfl
  | cons e t ih =>
    simp only [applyTimers]
    rw [applyTimer_setSp, ih]

/-- The timer does not look at SP. -/
theorem busTurn_setSp (s : State) (p : Word) : busTurn (s.setSp p) = (busTurn s).setSp p := by
  unfold busTurn
  simp only [State.setSp_busScript]
  split
  · rfl
  · exact applyTimers_setSp _ (s.setBusScript _) p

/-! ### memRead -/

theorem memRead_ram {a : Word} {s : State} (h : kindAt s.cfg a = .ram) : memRead a s = (s.stored a, s) := by
  unfold memRead; rw [h]

theorem memRead_rom {a : Word} {s : State} (h : kindAt s.cfg a = .rom) : memRead a s = (s.stored a, s) := by
  unfold memRead; rw [h]

/-- An address that is RAM or ROM reads as the stored byte. -/
theorem memRead_eq_stored {a : Word} {s : State} (h : kindAt s.cfg a = .ram ∨ kindAt s.cfg a = .rom) :
    memRead a s = (s.stored a, s) :=
  h.elim memRead_ram memRead_rom

theorem memRead_unmapped {a : Word} {s : State} (h : kindAt s.cfg a = .unmapped) : memRead a s = drawByte s := by
  unfold memRead; rw [h]

theorem memRead_device {a : Word} {s : State} (h : kindAt s.cfg a = .io) :
    memRead a s = ((ioGet (ioNameOf s.cfg a) (busTurn s)).1,
      logEvent (.read a (ioGet (ioNameOf s.cfg a) (busTurn s)).1) (ioGet (ioNameOf s.cfg a) (busTurn s)).2) := by
  unfold memRead; rw [h]

/-- A read changes only the event list, the count of free values, and what the timer's turn before it changes. -/
theorem memRead_frame (a : Word) (s : State) :
    (memRead a s).2 = { s with
        io := (memRead a s).2.io, events := (memRead a s).2.events, draws := (memRead a s).2.draws,
        busScript := (memRead a s).2.busScript } := by
  unfold memRead
  split
  · rfl
  · rfl
  · rfl
  · simp only [logEvent]
    rw [ioGet_frame, busTurn_frame]
    rfl

/-! Every field memRead leaves alone. -/

@[simp] theorem memRead_a (a : Word) (s : State) : (memRead a s).2.a = s.a := by rw [memRead_frame]
@[simp] theorem memRead_b (a : Word) (s : State) : (memRead a s).2.b = s.b := by rw [memRead_frame]
@[simp] theorem memRead_x (a : Word) (s : State) : (memRead a s).2.x = s.x := by rw [memRead_frame]
@[simp] theorem memRead_y (a : Word) (s : State) : (memRead a s).2.y = s.y := by rw [memRead_frame]
@[simp] theorem memRead_sp (a : Word) (s : State) : (memRead a s).2.sp = s.sp := by rw [memRead_frame]
@[simp] theorem memRead_pc (a : Word) (s : State) : (memRead a s).2.pc = s.pc := by rw [memRead_frame]
@[simp] theorem memRead_ccr (a : Word) (s : State) : (memRead a s).2.ccr = s.ccr := by rw [memRead_frame]
@[simp] theorem memRead_mem (a : Word) (s : State) : (memRead a s).2.mem = s.mem := by rw [memRead_frame]
@[simp] theorem memRead_run (a : Word) (s : State) : (memRead a s).2.run = s.run := by rw [memRead_frame]
@[simp] theorem memRead_irqInhibit (a : Word) (s : State) : (memRead a s).2.irqInhibit = s.irqInhibit := by rw [memRead_frame]
@[simp] theorem memRead_lines (a : Word) (s : State) : (memRead a s).2.lines = s.lines := by rw [memRead_frame]
@[simp] theorem memRead_resets (a : Word) (s : State) : (memRead a s).2.resets = s.resets := by rw [memRead_frame]
@[simp] theorem memRead_cfg (a : Word) (s : State) : (memRead a s).2.cfg = s.cfg := by rw [memRead_frame]
@[simp] theorem memRead_script (a : Word) (s : State) : (memRead a s).2.script = s.script := by rw [memRead_frame]

@[simp] theorem memRead_flag (a : Word) (s : State) (f : Flag) : (memRead a s).2.flag f = s.flag f := by
  rw [State.flag, memRead_ccr]; rfl

@[simp] theorem memRead_stored (a : Word) (s : State) (k : Word) : (memRead a s).2.stored k = s.stored k := by
  rw [State.stored, memRead_mem]; rfl

/-- With no event left in the timer's script a read leaves the register block alone. -/
theorem memRead_io_silent (a : Word) {s : State} (h : s.busScript = []) : (memRead a s).2.io = s.io := by
  unfold memRead
  split
  · rfl
  · rfl
  · rfl
  · simp only [logEvent]
    rw [busTurn_nil h, ioGet_frame]; rfl

/-! ### memWrite -/

theorem memWrite_ram {a : Word} {s : State} (v : Byte) (h : kindAt s.cfg a = .ram) :
    memWrite a v s = s.store a v := by
  unfold memWrite; rw [h]

theorem memWrite_rom {a : Word} {s : State} (v : Byte) (h : kindAt s.cfg a = .rom) : memWrite a v s = s := by
  unfold memWrite; rw [h]

theorem memWrite_unmapped {a : Word} {s : State} (v : Byte) (h : kindAt s.cfg a = .unmapped) :
    memWrite a v s = s := by
  unfold memWrite; rw [h]

theorem memWrite_device {a : Word} {s : State} (v : Byte) (h : kindAt s.cfg a = .io) :
    memWrite a v s = ioPut (ioNameOf s.cfg a) v (logEvent (.write a v) (busTurn s)) := by
  unfold memWrite; rw [h]

/-- A write changes only memory, the register block, the event list, the count of free values and the timer's script. -/
theorem memWrite_frame (a : Word) (v : Byte) (s : State) :
    memWrite a v s =
      { s with
        mem := (memWrite a v s).mem, io := (memWrite a v s).io, events := (memWrite a v s).events,
        draws := (memWrite a v s).draws, busScript := (memWrite a v s).busScript } := by
  unfold memWrite
  split
  · rfl
  · rfl
  · rfl
  · simp only [logEvent]
    rw [ioPut_frame, busTurn_frame]
    rfl

/-! Every field memWrite leaves alone. -/

@[simp] theorem memWrite_a (a : Word) (v : Byte) (s : State) : (memWrite a v s).a = s.a := by rw [memWrite_frame]
@[simp] theorem memWrite_b (a : Word) (v : Byte) (s : State) : (memWrite a v s).b = s.b := by rw [memWrite_frame]
@[simp] theorem memWrite_x (a : Word) (v : Byte) (s : State) : (memWrite a v s).x = s.x := by rw [memWrite_frame]
@[simp] theorem memWrite_y (a : Word) (v : Byte) (s : State) : (memWrite a v s).y = s.y := by rw [memWrite_frame]
@[simp] theorem memWrite_sp (a : Word) (v : Byte) (s : State) : (memWrite a v s).sp = s.sp := by rw [memWrite_frame]
@[simp] theorem memWrite_pc (a : Word) (v : Byte) (s : State) : (memWrite a v s).pc = s.pc := by rw [memWrite_frame]
@[simp] theorem memWrite_ccr (a : Word) (v : Byte) (s : State) : (memWrite a v s).ccr = s.ccr := by rw [memWrite_frame]
@[simp] theorem memWrite_run (a : Word) (v : Byte) (s : State) : (memWrite a v s).run = s.run := by rw [memWrite_frame]
@[simp] theorem memWrite_irqInhibit (a : Word) (v : Byte) (s : State) : (memWrite a v s).irqInhibit = s.irqInhibit := by rw [memWrite_frame]
@[simp] theorem memWrite_lines (a : Word) (v : Byte) (s : State) : (memWrite a v s).lines = s.lines := by rw [memWrite_frame]
@[simp] theorem memWrite_resets (a : Word) (v : Byte) (s : State) : (memWrite a v s).resets = s.resets := by rw [memWrite_frame]
@[simp] theorem memWrite_cfg (a : Word) (v : Byte) (s : State) : (memWrite a v s).cfg = s.cfg := by rw [memWrite_frame]
@[simp] theorem memWrite_script (a : Word) (v : Byte) (s : State) : (memWrite a v s).script = s.script := by rw [memWrite_frame]

@[simp] theorem memWrite_flag (a : Word) (v : Byte) (s : State) (f : Flag) : (memWrite a v s).flag f = s.flag f := by
  rw [State.flag, memWrite_ccr]; rfl

/-- The memory after a write: written where the address is RAM, otherwise as it was. -/
theorem memWrite_mem (a : Word) (v : Byte) (s : State) :
    (memWrite a v s).mem = if kindAt s.cfg a = .ram then s.mem.write a.toNat v else s.mem := by
  unfold memWrite
  split
  · next h => rw [if_pos h]; rfl
  · next h => rw [if_neg (by rw [h]; decide)]
  · next h => rw [if_neg (by rw [h]; decide)]
  · next h => rw [if_neg (by rw [h]; decide), ioPut_frame, logEvent, busTurn_frame]; rfl

theorem memWrite_stored_ne {a b : Word} (v : Byte) (s : State) (h : b ≠ a) :
    (memWrite a v s).stored b = s.stored b := by
  rw [State.stored, memWrite_mem]
  split
  · exact State.stored_store_ne s v h
  · rfl

theorem memWrite_stored_same {a : Word} {s : State} (v : Byte) (h : kindAt s.cfg a = .ram) (w : s.mem.wf) :
    (memWrite a v s).stored a = v := by
  rw [memWrite_ram v h, State.stored_store w, if_pos rfl]

theorem memWrite_wf {s : State} (h : s.mem.wf) (a : Word) (v : Byte) : (memWrite a v s).mem.wf := by
  rw [memWrite_mem]
  split
  · exact State.wf_store h a v
  · exact h

/-! ### The two-byte accesses -/

theorem memRead16_eq (a : Word) (s : State) :
    memRead16 a s = (cat16 (memRead a s).1 (memRead (a + 1) (memRead a s).2).1, (memRead (a + 1) (memRead a s).2).2) :=
  rfl

theorem memRead16_frame (a : Word) (s : State) :
    (memRead16 a s).2 = { s with
        io := (memRead16 a s).2.io, events := (memRead16 a s).2.events, draws := (memRead16 a s).2.draws,
        busScript := (memRead16 a s).2.busScript } := by
  simp only [memRead16_eq]
  rw [memRead_frame (a + 1), memRead_frame a]

theorem memRead16_eq_stored {a : Word} {s : State} (h : kindAt s.cfg a = .ram ∨ kindAt s.cfg a = .rom)
    (l : kindAt s.cfg (a + 1) = .ram ∨ kindAt s.cfg (a + 1) = .rom) :
    memRead16 a s = (cat16 (s.stored a) (s.stored (a + 1)), s) := by
  rw [memRead16_eq, memRead_eq_stored h, memRead_eq_stored l]

/-! Every field memRead16 leaves alone. -/

@[simp] theorem memRead16_a (a : Word) (s : State) : (memRead16 a s).2.a = s.a := by rw [memRead16_frame]
@[simp] theorem memRead16_b (a : Word) (s : State) : (memRead16 a s).2.b = s.b := by rw [memRead16_frame]
@[simp] theorem memRead16_x (a : Word) (s : State) : (memRead16 a s).2.x = s.x := by rw [memRead16_frame]
@[simp] theorem memRead16_y (a : Word) (s : State) : (memRead16 a s).2.y = s.y := by rw [memRead16_frame]
@[simp] theorem memRead16_sp (a : Word) (s : State) : (memRead16 a s).2.sp = s.sp := by rw [memRead16_frame]
@[simp] theorem memRead16_pc (a : Word) (s : State) : (memRead16 a s).2.pc = s.pc := by rw [memRead16_frame]
@[simp] theorem memRead16_ccr (a : Word) (s : State) : (memRead16 a s).2.ccr = s.ccr := by rw [memRead16_frame]
@[simp] theorem memRead16_mem (a : Word) (s : State) : (memRead16 a s).2.mem = s.mem := by rw [memRead16_frame]
@[simp] theorem memRead16_run (a : Word) (s : State) : (memRead16 a s).2.run = s.run := by rw [memRead16_frame]
@[simp] theorem memRead16_irqInhibit (a : Word) (s : State) : (memRead16 a s).2.irqInhibit = s.irqInhibit := by rw [memRead16_frame]
@[simp] theorem memRead16_lines (a : Word) (s : State) : (memRead16 a s).2.lines = s.lines := by rw [memRead16_frame]
@[simp] theorem memRead16_resets (a : Word) (s : State) : (memRead16 a s).2.resets = s.resets := by rw [memRead16_frame]
@[simp] theorem memRead16_cfg (a : Word) (s : State) : (memRead16 a s).2.cfg = s.cfg := by rw [memRead16_frame]
@[simp] theorem memRead16_script (a : Word) (s : State) : (memRead16 a s).2.script = s.script := by rw [memRead16_frame]

@[simp] theorem memRead16_flag (a : Word) (s : State) (f : Flag) : (memRead16 a s).2.flag f = s.flag f := by
  rw [State.flag, memRead16_ccr]; rfl

@[simp] theorem memRead16_stored (a : Word) (s : State) (k : Word) : (memRead16 a s).2.stored k = s.stored k := by
  rw [State.stored, memRead16_mem]; rfl

/-- A word read from two bytes of RAM. -/
theorem memRead16_ram {a : Word} {s : State} (h : kindAt s.cfg a = .ram) (l : kindAt s.cfg (a + 1) = .ram) :
    memRead16 a s = (cat16 (s.stored a) (s.stored (a + 1)), s) := by
  simp only [memRead16_eq, memRead_ram h, memRead_ram l]

theorem memWrite16_frame (a v : Word) (s : State) :
    memWrite16 a v s =
      { s with
        mem := (memWrite16 a v s).mem, io := (memWrite16 a v s).io, events := (memWrite16 a v s).events,
        draws := (memWrite16 a v s).draws, busScript := (memWrite16 a v s).busScript } := by
  unfold memWrite16
  rw [memWrite_frame (a + 1), memWrite_frame a]

/-! Every field memWrite16 leaves alone. -/

@[simp] theorem memWrite16_a (a v : Word) (s : State) : (memWrite16 a v s).a = s.a := by rw [memWrite16_frame]
@[simp] theorem memWrite16_b (a v : Word) (s : State) : (memWrite16 a v s).b = s.b := by rw [memWrite16_frame]
@[simp] theorem memWrite16_x (a v : Word) (s : State) : (memWrite16 a v s).x = s.x := by rw [memWrite16_frame]
@[simp] theorem memWrite16_y (a v : Word) (s : State) : (memWrite16 a v s).y = s.y := by rw [memWrite16_frame]
@[simp] theorem memWrite16_sp (a v : Word) (s : State) : (memWrite16 a v s).sp = s.sp := by rw [memWrite16_frame]
@[simp] theorem memWrite16_pc (a v : Word) (s : State) : (memWrite16 a v s).pc = s.pc := by rw [memWrite16_frame]
@[simp] theorem memWrite16_ccr (a v : Word) (s : State) : (memWrite16 a v s).ccr = s.ccr := by rw [memWrite16_frame]
@[simp] theorem memWrite16_run (a v : Word) (s : State) : (memWrite16 a v s).run = s.run := by rw [memWrite16_frame]
@[simp] theorem memWrite16_irqInhibit (a v : Word) (s : State) : (memWrite16 a v s).irqInhibit = s.irqInhibit := by rw [memWrite16_frame]
@[simp] theorem memWrite16_lines (a v : Word) (s : State) : (memWrite16 a v s).lines = s.lines := by rw [memWrite16_frame]
@[simp] theorem memWrite16_resets (a v : Word) (s : State) : (memWrite16 a v s).resets = s.resets := by rw [memWrite16_frame]
@[simp] theorem memWrite16_cfg (a v : Word) (s : State) : (memWrite16 a v s).cfg = s.cfg := by rw [memWrite16_frame]
@[simp] theorem memWrite16_script (a v : Word) (s : State) : (memWrite16 a v s).script = s.script := by rw [memWrite16_frame]

@[simp] theorem memWrite16_flag (a v : Word) (s : State) (f : Flag) : (memWrite16 a v s).flag f = s.flag f := by
  rw [State.flag, memWrite16_ccr]; rfl

theorem memWrite16_stored_ne {a b : Word} (v : Word) (s : State) (h : b ≠ a) (l : b ≠ a + 1) :
    (memWrite16 a v s).stored b = s.stored b := by
  unfold memWrite16
  rw [memWrite_stored_ne _ _ l, memWrite_stored_ne _ _ h]

theorem memWrite16_wf {s : State} (h : s.mem.wf) (a v : Word) : (memWrite16 a v s).mem.wf :=
  memWrite_wf (memWrite_wf h _ _) _ _

/-! ### Memory accesses and SP -/

theorem ioGet_setSp (n : IoName) (s : State) (p : Word) :
    ioGet n (s.setSp p) = ((ioGet n s).1, (ioGet n s).2.setSp p) := by
  cases n <;> rfl

theorem ioPut_setSp (n : IoName) (v : Byte) (s : State) (p : Word) :
    ioPut n v (s.setSp p) = (ioPut n v s).setSp p := by
  cases n <;> rfl

/-- A read does not look at SP. -/
theorem memRead_setSp (a : Word) (s : State) (p : Word) :
    memRead a (s.setSp p) = ((memRead a s).1, (memRead a s).2.setSp p) := by
  unfold memRead
  simp only [State.setSp_cfg]
  split
  · rfl
  · rfl
  · rfl
  · rw [busTurn_setSp, ioGet_setSp]
    rfl

/-- A write does not look at SP. -/
theorem memWrite_setSp (a : Word) (v : Byte) (s : State) (p : Word) :
    memWrite a v (s.setSp p) = (memWrite a v s).setSp p := by
  unfold memWrite
  simp only [State.setSp_cfg]
  split
  · rfl
  · rfl
  · rfl
  · rw [busTurn_setSp, ← ioPut_setSp]
    rfl

/-! ### The stack -/

theorem push8_frame (v : Byte) (s : State) :
    push8 v s =
      { s with
        sp := s.sp - 1, mem := (push8 v s).mem, io := (push8 v s).io, events := (push8 v s).events,
        draws := (push8 v s).draws, busScript := (push8 v s).busScript } := by
  unfold push8
  rw [memWrite_frame]
  rfl

/-! Every field push8 leaves alone. -/

@[simp] theorem push8_a (v : Byte) (s : State) : (push8 v s).a = s.a := by rw [push8_frame]
@[simp] theorem push8_b (v : Byte) (s : State) : (push8 v s).b = s.b := by rw [push8_frame]
@[simp] theorem push8_x (v : Byte) (s : State) : (push8 v s).x = s.x := by rw [push8_frame]
@[simp] theorem push8_y (v : Byte) (s : State) : (push8 v s).y = s.y := by rw [push8_frame]
@[simp] theorem push8_pc (v : Byte) (s : State) : (push8 v s).pc = s.pc := by rw [push8_frame]
@[simp] theorem push8_ccr (v : Byte) (s : State) : (push8 v s).ccr = s.ccr := by rw [push8_frame]
@[simp] theorem push8_run (v : Byte) (s : State) : (push8 v s).run = s.run := by rw [push8_frame]
@[simp] theorem push8_irqInhibit (v : Byte) (s : State) : (push8 v s).irqInhibit = s.irqInhibit := by rw [push8_frame]
@[simp] theorem push8_lines (v : Byte) (s : State) : (push8 v s).lines = s.lines := by rw [push8_frame]
@[simp] theorem push8_resets (v : Byte) (s : State) : (push8 v s).resets = s.resets := by rw [push8_frame]
@[simp] theorem push8_cfg (v : Byte) (s : State) : (push8 v s).cfg = s.cfg := by rw [push8_frame]
@[simp] theorem push8_script (v : Byte) (s : State) : (push8 v s).script = s.script := by rw [push8_frame]

@[simp] theorem push8_sp (v : Byte) (s : State) : (push8 v s).sp = s.sp - 1 := by rw [push8_frame]

@[simp] theorem push8_flag (v : Byte) (s : State) (f : Flag) : (push8 v s).flag f = s.flag f := by
  rw [State.flag, push8_ccr]; rfl

theorem push8_mem (v : Byte) (s : State) : (push8 v s).mem = (memWrite s.sp v s).mem := rfl

theorem push8_stored_ne (v : Byte) (s : State) {b : Word} (h : b ≠ s.sp) : (push8 v s).stored b = s.stored b :=
  memWrite_stored_ne v s h

theorem push8_stored_same (v : Byte) {s : State} (h : kindAt s.cfg s.sp = .ram) (w : s.mem.wf) :
    (push8 v s).stored s.sp = v :=
  memWrite_stored_same v h w

theorem push8_wf {s : State} (h : s.mem.wf) (v : Byte) : (push8 v s).mem.wf := memWrite_wf h s.sp v

theorem pull8_frame (s : State) :
    (pull8 s).2 = { s with
        sp := s.sp + 1, io := (pull8 s).2.io, events := (pull8 s).2.events, draws := (pull8 s).2.draws,
        busScript := (pull8 s).2.busScript } := by
  unfold pull8
  rw [memRead_frame]
  rfl

/-! Every field pull8 leaves alone. -/

@[simp] theorem pull8_a (s : State) : (pull8 s).2.a = s.a := by rw [pull8_frame]
@[simp] theorem pull8_b (s : State) : (pull8 s).2.b = s.b := by rw [pull8_frame]
@[simp] theorem pull8_x (s : State) : (pull8 s).2.x = s.x := by rw [pull8_frame]
@[simp] theorem pull8_y (s : State) : (pull8 s).2.y = s.y := by rw [pull8_frame]
@[simp] theorem pull8_pc (s : State) : (pull8 s).2.pc = s.pc := by rw [pull8_frame]
@[simp] theorem pull8_ccr (s : State) : (pull8 s).2.ccr = s.ccr := by rw [pull8_frame]
@[simp] theorem pull8_mem (s : State) : (pull8 s).2.mem = s.mem := by rw [pull8_frame]
@[simp] theorem pull8_run (s : State) : (pull8 s).2.run = s.run := by rw [pull8_frame]
@[simp] theorem pull8_irqInhibit (s : State) : (pull8 s).2.irqInhibit = s.irqInhibit := by rw [pull8_frame]
@[simp] theorem pull8_lines (s : State) : (pull8 s).2.lines = s.lines := by rw [pull8_frame]
@[simp] theorem pull8_resets (s : State) : (pull8 s).2.resets = s.resets := by rw [pull8_frame]
@[simp] theorem pull8_cfg (s : State) : (pull8 s).2.cfg = s.cfg := by rw [pull8_frame]
@[simp] theorem pull8_script (s : State) : (pull8 s).2.script = s.script := by rw [pull8_frame]

@[simp] theorem pull8_sp (s : State) : (pull8 s).2.sp = s.sp + 1 := by rw [pull8_frame]

@[simp] theorem pull8_flag (s : State) (f : Flag) : (pull8 s).2.flag f = s.flag f := by
  rw [State.flag, pull8_ccr]; rfl

@[simp] theorem pull8_stored (s : State) (k : Word) : (pull8 s).2.stored k = s.stored k := by
  rw [State.stored, pull8_mem]; rfl

theorem pull8_ram {s : State} (h : kindAt s.cfg (s.sp + 1) = .ram) :
    pull8 s = (s.stored (s.sp + 1), s.setSp (s.sp + 1)) :=
  memRead_ram (s := s.setSp (s.sp + 1)) h

theorem push16_frame (v : Word) (s : State) :
    push16 v s =
      { s with
        sp := s.sp - 2, mem := (push16 v s).mem, io := (push16 v s).io, events := (push16 v s).events,
        draws := (push16 v s).draws, busScript := (push16 v s).busScript } := by
  unfold push16
  rw [push8_frame (hi v), push8_frame (lo v)]
  have e : s.sp - 1 - 1 = s.sp - 2 := by bv_omega
  simp only [e]

/-! Every field push16 leaves alone. -/

@[simp] theorem push16_a (v : Word) (s : State) : (push16 v s).a = s.a := by rw [push16_frame]
@[simp] theorem push16_b (v : Word) (s : State) : (push16 v s).b = s.b := by rw [push16_frame]
@[simp] theorem push16_x (v : Word) (s : State) : (push16 v s).x = s.x := by rw [push16_frame]
@[simp] theorem push16_y (v : Word) (s : State) : (push16 v s).y = s.y := by rw [push16_frame]
@[simp] theorem push16_pc (v : Word) (s : State) : (push16 v s).pc = s.pc := by rw [push16_frame]
@[simp] theorem push16_ccr (v : Word) (s : State) : (push16 v s).ccr = s.ccr := by rw [push16_frame]
@[simp] theorem push16_run (v : Word) (s : State) : (push16 v s).run = s.run := by rw [push16_frame]
@[simp] theorem push16_irqInhibit (v : Word) (s : State) : (push16 v s).irqInhibit = s.irqInhibit := by rw [push16_frame]
@[simp] theorem push16_lines (v : Word) (s : State) : (push16 v s).lines = s.lines := by rw [push16_frame]
@[simp] theorem push16_resets (v : Word) (s : State) : (push16 v s).resets = s.resets := by rw [push16_frame]
@[simp] theorem push16_cfg (v : Word) (s : State) : (push16 v s).cfg = s.cfg := by rw [push16_frame]
@[simp] theorem push16_script (v : Word) (s : State) : (push16 v s).script = s.script := by rw [push16_frame]

@[simp] theorem push16_sp (v : Word) (s : State) : (push16 v s).sp = s.sp - 2 := by rw [push16_frame]

@[simp] theorem push16_flag (v : Word) (s : State) (f : Flag) : (push16 v s).flag f = s.flag f := by
  rw [State.flag, push16_ccr]; rfl

theorem push16_stored_ne (v : Word) (s : State) {b : Word} (h : b ≠ s.sp) (l : b ≠ s.sp - 1) :
    (push16 v s).stored b = s.stored b := by
  unfold push16
  rw [push8_stored_ne _ _ (by simpa using l), push8_stored_ne _ _ h]

/-- A pushed word lies high byte first (R76). -/
theorem push16_stored {s : State} (v : Word) (h : kindAt s.cfg s.sp = .ram) (l : kindAt s.cfg (s.sp - 1) = .ram)
    (w : s.mem.wf) : (push16 v s).stored s.sp = lo v ∧ (push16 v s).stored (s.sp - 1) = hi v := by
  unfold push16
  refine ⟨?_, ?_⟩
  · rw [push8_stored_ne _ _ (by simp only [push8_sp]; bv_omega), push8_stored_same _ h w]
  · have := push8_stored_same (hi v) (s := push8 (lo v) s) (by simpa using l) (push8_wf w _)
    rwa [push8_sp] at this

theorem push16_wf {s : State} (h : s.mem.wf) (v : Word) : (push16 v s).mem.wf := push8_wf (push8_wf h _) _

theorem pull16_frame (s : State) :
    (pull16 s).2 = { s with
        sp := s.sp + 2, io := (pull16 s).2.io, events := (pull16 s).2.events, draws := (pull16 s).2.draws,
        busScript := (pull16 s).2.busScript } := by
  simp only [pull16]
  rw [pull8_frame (pull8 s).2, pull8_frame s]
  have e : s.sp + 1 + 1 = s.sp + 2 := by bv_omega
  simp only [e]

/-! Every field pull16 leaves alone. -/

@[simp] theorem pull16_a (s : State) : (pull16 s).2.a = s.a := by rw [pull16_frame]
@[simp] theorem pull16_b (s : State) : (pull16 s).2.b = s.b := by rw [pull16_frame]
@[simp] theorem pull16_x (s : State) : (pull16 s).2.x = s.x := by rw [pull16_frame]
@[simp] theorem pull16_y (s : State) : (pull16 s).2.y = s.y := by rw [pull16_frame]
@[simp] theorem pull16_pc (s : State) : (pull16 s).2.pc = s.pc := by rw [pull16_frame]
@[simp] theorem pull16_ccr (s : State) : (pull16 s).2.ccr = s.ccr := by rw [pull16_frame]
@[simp] theorem pull16_mem (s : State) : (pull16 s).2.mem = s.mem := by rw [pull16_frame]
@[simp] theorem pull16_run (s : State) : (pull16 s).2.run = s.run := by rw [pull16_frame]
@[simp] theorem pull16_irqInhibit (s : State) : (pull16 s).2.irqInhibit = s.irqInhibit := by rw [pull16_frame]
@[simp] theorem pull16_lines (s : State) : (pull16 s).2.lines = s.lines := by rw [pull16_frame]
@[simp] theorem pull16_resets (s : State) : (pull16 s).2.resets = s.resets := by rw [pull16_frame]
@[simp] theorem pull16_cfg (s : State) : (pull16 s).2.cfg = s.cfg := by rw [pull16_frame]
@[simp] theorem pull16_script (s : State) : (pull16 s).2.script = s.script := by rw [pull16_frame]

@[simp] theorem pull16_sp (s : State) : (pull16 s).2.sp = s.sp + 2 := by rw [pull16_frame]

@[simp] theorem pull16_flag (s : State) (f : Flag) : (pull16 s).2.flag f = s.flag f := by
  rw [State.flag, pull16_ccr]; rfl

@[simp] theorem pull16_stored (s : State) (k : Word) : (pull16 s).2.stored k = s.stored k := by
  rw [State.stored, pull16_mem]; rfl

theorem pull16_ram {s : State} (h : kindAt s.cfg (s.sp + 1) = .ram) (l : kindAt s.cfg (s.sp + 2) = .ram) :
    pull16 s = (cat16 (s.stored (s.sp + 1)) (s.stored (s.sp + 2)), s.setSp (s.sp + 2)) := by
  have e : s.sp + 1 + 1 = s.sp + 2 := by bv_omega
  have l' : kindAt (s.setSp (s.sp + 1)).cfg ((s.setSp (s.sp + 1)).sp + 1) = .ram := by
    show kindAt s.cfg (s.sp + 1 + 1) = .ram
    rw [e]; exact l
  simp only [pull16, pull8_ram h, pull8_ram l', State.setSp_sp, e]
  rfl

/-! ### Pushes and pulls as accesses -/

theorem push8_eq (v : Byte) (s : State) : push8 v s = (memWrite s.sp v s).setSp (s.sp - 1) := rfl

/-- A push of a word is two writes, the low byte's first. -/
theorem push16_eq (v : Word) (s : State) :
    push16 v s = (memWrite (s.sp - 1) (hi v) (memWrite s.sp (lo v) s)).setSp (s.sp - 2) := by
  have e : s.sp - 1 - 1 = s.sp - 2 := by bv_omega
  simp only [push16, push8_eq, State.setSp_sp, memWrite_setSp, e]
  rfl

theorem pull8_eq (s : State) :
    pull8 s = ((memRead (s.sp + 1) s).1, (memRead (s.sp + 1) s).2.setSp (s.sp + 1)) :=
  memRead_setSp _ _ _

/-- A pull of a word is two reads, the high byte's first. -/
theorem pull16_eq (s : State) :
    pull16 s =
      (cat16 (memRead (s.sp + 1) s).1 (memRead (s.sp + 2) (memRead (s.sp + 1) s).2).1,
        (memRead (s.sp + 2) (memRead (s.sp + 1) s).2).2.setSp (s.sp + 2)) := by
  have e : s.sp + 1 + 1 = s.sp + 2 := by bv_omega
  simp only [pull16, pull8_eq, State.setSp_sp, memRead_setSp, e]
  rfl

end Sys2Proof.Machine
end

