-- ==== Sys2Proof/Laws/Entry.lean ====
section
/-! SUPPORT. Taking an exception and returning from one: every field of the state after. -/

namespace Sys2Proof.Machine

theorem pushFrame_frame (r : Word) (s : State) :
    pushFrame r s =
      { s with
        sp := s.sp - 9, mem := (pushFrame r s).mem, io := (pushFrame r s).io, events := (pushFrame r s).events,
        draws := (pushFrame r s).draws, busScript := (pushFrame r s).busScript } := by
  rw [State.ext_iff]
  simp only [pushFrame, push8_a, push8_b, push8_x, push8_y, push8_sp, push8_pc, push8_ccr, push8_run, push8_irqInhibit,
    push8_lines, push8_resets, push8_cfg, push8_script, push16_a, push16_b, push16_x, push16_y, push16_sp, push16_pc,
    push16_ccr, push16_run, push16_irqInhibit, push16_lines, push16_resets, push16_cfg, push16_script, true_and,
    and_true]
  bv_omega

/-! Every field pushFrame leaves alone. -/

@[simp] theorem pushFrame_a (r : Word) (s : State) : (pushFrame r s).a = s.a := by rw [pushFrame_frame]
@[simp] theorem pushFrame_b (r : Word) (s : State) : (pushFrame r s).b = s.b := by rw [pushFrame_frame]
@[simp] theorem pushFrame_x (r : Word) (s : State) : (pushFrame r s).x = s.x := by rw [pushFrame_frame]
@[simp] theorem pushFrame_y (r : Word) (s : State) : (pushFrame r s).y = s.y := by rw [pushFrame_frame]
@[simp] theorem pushFrame_pc (r : Word) (s : State) : (pushFrame r s).pc = s.pc := by rw [pushFrame_frame]
@[simp] theorem pushFrame_ccr (r : Word) (s : State) : (pushFrame r s).ccr = s.ccr := by rw [pushFrame_frame]
@[simp] theorem pushFrame_run (r : Word) (s : State) : (pushFrame r s).run = s.run := by rw [pushFrame_frame]
@[simp] theorem pushFrame_irqInhibit (r : Word) (s : State) : (pushFrame r s).irqInhibit = s.irqInhibit := by
  rw [pushFrame_frame]
@[simp] theorem pushFrame_lines (r : Word) (s : State) : (pushFrame r s).lines = s.lines := by rw [pushFrame_frame]
@[simp] theorem pushFrame_resets (r : Word) (s : State) : (pushFrame r s).resets = s.resets := by rw [pushFrame_frame]
@[simp] theorem pushFrame_cfg (r : Word) (s : State) : (pushFrame r s).cfg = s.cfg := by rw [pushFrame_frame]
@[simp] theorem pushFrame_script (r : Word) (s : State) : (pushFrame r s).script = s.script := by rw [pushFrame_frame]

@[simp] theorem pushFrame_sp (r : Word) (s : State) : (pushFrame r s).sp = s.sp - 9 := by rw [pushFrame_frame]

@[simp] theorem pushFrame_flag (r : Word) (s : State) (f : Flag) : (pushFrame r s).flag f = s.flag f := by
  rw [State.flag, pushFrame_ccr]; rfl

/-- The nine addresses of a frame pushed at SP. -/
def frameAddrs (sp : Word) : List Word :=
  [sp, sp - 1, sp - 2, sp - 3, sp - 4, sp - 5, sp - 6, sp - 7, sp - 8]

theorem pushFrame_wf {s : State} (h : s.mem.wf) (r : Word) : (pushFrame r s).mem.wf :=
  push8_wf (push8_wf (push8_wf (push16_wf (push16_wf (push16_wf h _) _) _) _) _) _

theorem pushFrame_stored_ne (r : Word) (s : State) {b : Word} (h : b ∉ frameAddrs s.sp) :
    (pushFrame r s).stored b = s.stored b := by
  simp only [frameAddrs, List.mem_cons, List.not_mem_nil, or_false, not_or] at h
  obtain ⟨h0, h1, h2, h3, h4, h5, h6, h7, h8⟩ := h
  unfold pushFrame
  rw [push8_stored_ne (h := by simp only [push8_sp, push16_sp]; bv_omega),
    push8_stored_ne (h := by simp only [push8_sp, push16_sp]; bv_omega),
    push8_stored_ne (h := by simp only [push16_sp]; bv_omega),
    push16_stored_ne (h := by simp only [push16_sp]; bv_omega) (l := by simp only [push16_sp]; bv_omega),
    push16_stored_ne (h := by simp only [push16_sp]; bv_omega) (l := by simp only [push16_sp]; bv_omega),
    push16_stored_ne (h := h0) (l := h1)]

/-! ### A frame in RAM -/

theorem sub_sub_word (w m n : Word) : w - m - n = w - (m + n) := by bv_omega

theorem sub_ne_sub (w m n : Word) (h : m ≠ n) : w - m ≠ w - n := by bv_omega

theorem self_ne_sub (w n : Word) (h : n ≠ 0) : w ≠ w - n := by bv_omega

theorem push16_stored_at {s : State} (v : Word) (w : s.mem.wf) (b c : Word) (eb : s.sp = b) (ec : s.sp - 1 = c)
    (h : kindAt s.cfg b = .ram) (l : kindAt s.cfg c = .ram) :
    (push16 v s).stored b = lo v ∧ (push16 v s).stored c = hi v := by
  subst eb; subst ec; exact push16_stored v h l w

theorem push8_stored_at {s : State} (v : Byte) (w : s.mem.wf) (b : Word) (eb : s.sp = b)
    (h : kindAt s.cfg b = .ram) : (push8 v s).stored b = v := by
  subst eb; exact push8_stored_same v h w

/-- Where every frame address is RAM the frame bytes lie as R455's table lists them. -/
theorem pushFrame_stored {s : State} (r : Word) (h : ∀ a ∈ frameAddrs s.sp, kindAt s.cfg a = .ram) (w : s.mem.wf) :
    (pushFrame r s).stored s.sp = lo r ∧ (pushFrame r s).stored (s.sp - 1) = hi r ∧
    (pushFrame r s).stored (s.sp - 2) = lo s.y ∧ (pushFrame r s).stored (s.sp - 3) = hi s.y ∧
    (pushFrame r s).stored (s.sp - 4) = lo s.x ∧ (pushFrame r s).stored (s.sp - 5) = hi s.x ∧
    (pushFrame r s).stored (s.sp - 6) = s.a ∧ (pushFrame r s).stored (s.sp - 7) = s.b ∧
    (pushFrame r s).stored (s.sp - 8) = s.ccr := by
  simp only [frameAddrs, List.mem_cons, List.not_mem_nil, or_false, forall_eq_or_imp, forall_eq] at h
  obtain ⟨h0, h1, h2, h3, h4, h5, h6, h7, h8⟩ := h
  have w1 := push16_wf w r
  have w2 := push16_wf w1 s.y
  have w3 := push16_wf w2 s.x
  have w4 := push8_wf w3 s.a
  have w5 := push8_wf w4 s.b
  have p1 := push16_stored_at r w _ _ rfl rfl h0 h1
  have p2 := push16_stored_at s.y w1 (s.sp - 2) (s.sp - 3) (by rw [push16_sp]) (by rw [push16_sp, sub_sub_word]; rfl)
    (by rw [push16_cfg]; exact h2) (by rw [push16_cfg]; exact h3)
  have p3 := push16_stored_at s.x w2 (s.sp - 4) (s.sp - 5) (by simp only [push16_sp, sub_sub_word]; rfl)
    (by simp only [push16_sp, sub_sub_word]; rfl) (by simp only [push16_cfg]; exact h4) (by simp only [push16_cfg]; exact h5)
  have p4 := push8_stored_at s.a w3 (s.sp - 6) (by simp only [push16_sp, sub_sub_word]; rfl)
    (by simp only [push16_cfg]; exact h6)
  have p5 := push8_stored_at s.b w4 (s.sp - 7) (by simp only [push16_sp, push8_sp, sub_sub_word]; rfl)
    (by simp only [push16_cfg, push8_cfg]; exact h7)
  have p6 := push8_stored_at s.ccr w5 (s.sp - 8) (by simp only [push16_sp, push8_sp, sub_sub_word]; rfl)
    (by simp only [push16_cfg, push8_cfg]; exact h8)
  rw [show pushFrame r s = push8 s.ccr (push8 s.b (push8 s.a (push16 s.x (push16 s.y (push16 r s))))) from rfl]
  have n8 : ∀ v b (t : State), b ≠ t.sp → (push8 v t).stored b = t.stored b := fun v b t h => push8_stored_ne v t h
  have n16 : ∀ v b (t : State), b ≠ t.sp → b ≠ t.sp - 1 → (push16 v t).stored b = t.stored b :=
    fun v b t h l => push16_stored_ne v t h l
  refine ⟨?_, ?_, ?_, ?_, ?_, ?_, ?_, ?_, p6⟩
  · rw [n8, n8, n8, n16, n16, p1.1] <;> simp only [push16_sp, push8_sp, sub_sub_word] <;>
      first | exact sub_ne_sub _ _ _ (by decide) | exact self_ne_sub _ _ (by decide)
  · rw [n8, n8, n8, n16, n16, p1.2] <;> simp only [push16_sp, push8_sp, sub_sub_word] <;>
      exact sub_ne_sub _ _ _ (by decide)
  · rw [n8, n8, n8, n16, p2.1] <;> simp only [push16_sp, push8_sp, sub_sub_word] <;>
      exact sub_ne_sub _ _ _ (by decide)
  · rw [n8, n8, n8, n16, p2.2] <;> simp only [push16_sp, push8_sp, sub_sub_word] <;>
      exact sub_ne_sub _ _ _ (by decide)
  · rw [n8, n8, n8, p3.1] <;> simp only [push16_sp, push8_sp, sub_sub_word] <;>
      exact sub_ne_sub _ _ _ (by decide)
  · rw [n8, n8, n8, p3.2] <;> simp only [push16_sp, push8_sp, sub_sub_word] <;>
      exact sub_ne_sub _ _ _ (by decide)
  · rw [n8, n8, p4] <;> simp only [push16_sp, push8_sp, sub_sub_word] <;>
      exact sub_ne_sub _ _ _ (by decide)
  · rw [n8, p5] <;> simp only [push16_sp, push8_sp, sub_sub_word] <;>
      exact sub_ne_sub _ _ _ (by decide)

theorem push8_io_ram {s : State} (v : Byte) (h : kindAt s.cfg s.sp = .ram) : (push8 v s).io = s.io := by
  rw [push8_eq, State.setSp_io, memWrite_ram v h]
  rfl

theorem push16_io_ram {s : State} (v : Word) (h : kindAt s.cfg s.sp = .ram) (l : kindAt s.cfg (s.sp - 1) = .ram) :
    (push16 v s).io = s.io := by
  rw [push16, push8_io_ram _ (by rw [push8_cfg, push8_sp]; exact l), push8_io_ram _ h]

/-- A frame pushed to RAM leaves the register block alone. -/
theorem pushFrame_io {s : State} (r : Word) (h : ∀ a ∈ frameAddrs s.sp, kindAt s.cfg a = .ram) :
    (pushFrame r s).io = s.io := by
  simp only [frameAddrs, List.mem_cons, List.not_mem_nil, or_false, forall_eq_or_imp, forall_eq] at h
  obtain ⟨h0, h1, h2, h3, h4, h5, h6, h7, h8⟩ := h
  have at_sp : ∀ (t : State) (b : Word), t.cfg = s.cfg → t.sp = b → kindAt s.cfg b = .ram →
      kindAt t.cfg t.sp = .ram := by
    intro t b e f k; rw [e, f]; exact k
  simp only [pushFrame]
  rw [push8_io_ram _ (at_sp _ (s.sp - 8) (by simp) (by simp only [push8_sp, push16_sp]; bv_omega) h8),
    push8_io_ram _ (at_sp _ (s.sp - 7) (by simp) (by simp only [push8_sp, push16_sp]; bv_omega) h7),
    push8_io_ram _ (at_sp _ (s.sp - 6) (by simp) (by simp only [push16_sp]; bv_omega) h6),
    push16_io_ram _ (at_sp _ (s.sp - 4) (by simp) (by simp only [push16_sp]; bv_omega) h4)
      (by simp only [push16_sp, push16_cfg]; rw [show s.sp - 2 - 2 - 1 = s.sp - 5 by bv_omega]; exact h5),
    push16_io_ram _ (at_sp _ (s.sp - 2) (by simp) (by simp only [push16_sp]) h2)
      (by simp only [push16_sp, push16_cfg]; rw [show s.sp - 2 - 1 = s.sp - 3 by bv_omega]; exact h3),
    push16_io_ram _ h0 h1]

/-! ### trapEntry -/

theorem trapEntry_frame (src : TrapSource) (r : Word) (k : Bool) (s : State) :
    trapEntry src r k s =
      { s with
        sp := (if k then s.sp - 9 else s.sp), pc := (trapEntry src r k s).pc, ccr := entryMask src s.ccr,
        run := .running, irqInhibit := false, mem := (if k then (pushFrame r s).mem else s.mem),
        io := (trapEntry src r k s).io, events := (trapEntry src r k s).events,
        draws := (trapEntry src r k s).draws, busScript := (trapEntry src r k s).busScript } := by
  rw [State.ext_iff]
  cases k <;> simp [trapEntry]

/-! Every field trapEntry leaves alone. -/

@[simp] theorem trapEntry_a (src : TrapSource) (r : Word) (k : Bool) (s : State) : (trapEntry src r k s).a = s.a := by
  rw [trapEntry_frame]
@[simp] theorem trapEntry_b (src : TrapSource) (r : Word) (k : Bool) (s : State) : (trapEntry src r k s).b = s.b := by
  rw [trapEntry_frame]
@[simp] theorem trapEntry_x (src : TrapSource) (r : Word) (k : Bool) (s : State) : (trapEntry src r k s).x = s.x := by
  rw [trapEntry_frame]
@[simp] theorem trapEntry_y (src : TrapSource) (r : Word) (k : Bool) (s : State) : (trapEntry src r k s).y = s.y := by
  rw [trapEntry_frame]
@[simp] theorem trapEntry_lines (src : TrapSource) (r : Word) (k : Bool) (s : State) :
    (trapEntry src r k s).lines = s.lines := by
  rw [trapEntry_frame]
@[simp] theorem trapEntry_resets (src : TrapSource) (r : Word) (k : Bool) (s : State) :
    (trapEntry src r k s).resets = s.resets := by
  rw [trapEntry_frame]
@[simp] theorem trapEntry_cfg (src : TrapSource) (r : Word) (k : Bool) (s : State) :
    (trapEntry src r k s).cfg = s.cfg := by
  rw [trapEntry_frame]
@[simp] theorem trapEntry_script (src : TrapSource) (r : Word) (k : Bool) (s : State) :
    (trapEntry src r k s).script = s.script := by
  rw [trapEntry_frame]

@[simp] theorem trapEntry_sp (src : TrapSource) (r : Word) (k : Bool) (s : State) :
    (trapEntry src r k s).sp = if k then s.sp - 9 else s.sp := by
  rw [trapEntry_frame]
@[simp] theorem trapEntry_ccr (src : TrapSource) (r : Word) (k : Bool) (s : State) :
    (trapEntry src r k s).ccr = entryMask src s.ccr := by
  rw [trapEntry_frame]
@[simp] theorem trapEntry_run (src : TrapSource) (r : Word) (k : Bool) (s : State) :
    (trapEntry src r k s).run = .running := by
  rw [trapEntry_frame]
@[simp] theorem trapEntry_irqInhibit (src : TrapSource) (r : Word) (k : Bool) (s : State) :
    (trapEntry src r k s).irqInhibit = false := by
  rw [trapEntry_frame]
@[simp] theorem trapEntry_mem (src : TrapSource) (r : Word) (k : Bool) (s : State) :
    (trapEntry src r k s).mem = if k then (pushFrame r s).mem else s.mem := by rw [trapEntry_frame]
@[simp] theorem trapEntry_flag (src : TrapSource) (r : Word) (k : Bool) (s : State) (f : Flag) :
    (trapEntry src r k s).flag f = if f = .i then true else if f = .x ∧ src = .xirq then true else s.flag f := by
  rw [State.flag, trapEntry_ccr, ccrGet_entryMask]; rfl

/-- Where the vector is memory an entry changes the register block only as the pushing of the frame does. -/
theorem trapEntry_io {src : TrapSource} {s : State}
    (h : kindAt s.cfg (trapVector src) = .ram ∨ kindAt s.cfg (trapVector src) = .rom)
    (l : kindAt s.cfg (trapVector src + 1) = .ram ∨ kindAt s.cfg (trapVector src + 1) = .rom) (r : Word) (k : Bool) :
    (trapEntry src r k s).io = if k then (pushFrame r s).io else s.io := by
  have read : ∀ u : State, u.cfg = s.cfg → (memRead16 (trapVector src) u).2 = u := fun u e => by
    rw [memRead16_eq_stored (by rw [e]; exact h) (by rw [e]; exact l)]
  unfold trapEntry
  simp only [State.setRun_io, State.setPc_io]
  rw [read _ (by cases k <;> simp)]
  cases k <;> simp

theorem trapEntry_wf {s : State} (h : s.mem.wf) (src : TrapSource) (r : Word) (k : Bool) :
    (trapEntry src r k s).mem.wf := by
  rw [trapEntry_mem]
  cases k
  · exact h
  · exact pushFrame_wf h r

theorem trapEntry_stored_ne (src : TrapSource) (r : Word) (k : Bool) (s : State) {b : Word}
    (h : b ∉ frameAddrs s.sp) : (trapEntry src r k s).stored b = s.stored b := by
  cases k
  · simp only [State.stored, trapEntry_mem, Bool.false_eq_true, if_false]
  · have e := pushFrame_stored_ne r s h
    simp only [State.stored] at e
    simp only [State.stored, trapEntry_mem, if_true, e]

/-! ### returnFromInterrupt -/

/-! pullA -/

@[simp] theorem pullA_a (s : State) : (pullA s).a = (pull8 s).1 := by simp [pullA]
@[simp] theorem pullA_b (s : State) : (pullA s).b = s.b := by simp [pullA]
@[simp] theorem pullA_x (s : State) : (pullA s).x = s.x := by simp [pullA]
@[simp] theorem pullA_y (s : State) : (pullA s).y = s.y := by simp [pullA]
@[simp] theorem pullA_sp (s : State) : (pullA s).sp = s.sp + 1 := by simp [pullA]
@[simp] theorem pullA_pc (s : State) : (pullA s).pc = s.pc := by simp [pullA]
@[simp] theorem pullA_ccr (s : State) : (pullA s).ccr = s.ccr := by simp [pullA]
@[simp] theorem pullA_mem (s : State) : (pullA s).mem = s.mem := by simp [pullA]
@[simp] theorem pullA_run (s : State) : (pullA s).run = s.run := by simp [pullA]
@[simp] theorem pullA_irqInhibit (s : State) : (pullA s).irqInhibit = s.irqInhibit := by simp [pullA]
@[simp] theorem pullA_lines (s : State) : (pullA s).lines = s.lines := by simp [pullA]
@[simp] theorem pullA_resets (s : State) : (pullA s).resets = s.resets := by simp [pullA]
@[simp] theorem pullA_cfg (s : State) : (pullA s).cfg = s.cfg := by simp [pullA]
@[simp] theorem pullA_script (s : State) : (pullA s).script = s.script := by simp [pullA]
@[simp] theorem pullA_flag (s : State) (f : Flag) : (pullA s).flag f = s.flag f := by simp [pullA]
@[simp] theorem pullA_stored (s : State) (k : Word) : (pullA s).stored k = s.stored k := by simp [pullA]

/-! pullB -/

@[simp] theorem pullB_a (s : State) : (pullB s).a = s.a := by simp [pullB]
@[simp] theorem pullB_b (s : State) : (pullB s).b = (pull8 s).1 := by simp [pullB]
@[simp] theorem pullB_x (s : State) : (pullB s).x = s.x := by simp [pullB]
@[simp] theorem pullB_y (s : State) : (pullB s).y = s.y := by simp [pullB]
@[simp] theorem pullB_sp (s : State) : (pullB s).sp = s.sp + 1 := by simp [pullB]
@[simp] theorem pullB_pc (s : State) : (pullB s).pc = s.pc := by simp [pullB]
@[simp] theorem pullB_ccr (s : State) : (pullB s).ccr = s.ccr := by simp [pullB]
@[simp] theorem pullB_mem (s : State) : (pullB s).mem = s.mem := by simp [pullB]
@[simp] theorem pullB_run (s : State) : (pullB s).run = s.run := by simp [pullB]
@[simp] theorem pullB_irqInhibit (s : State) : (pullB s).irqInhibit = s.irqInhibit := by simp [pullB]
@[simp] theorem pullB_lines (s : State) : (pullB s).lines = s.lines := by simp [pullB]
@[simp] theorem pullB_resets (s : State) : (pullB s).resets = s.resets := by simp [pullB]
@[simp] theorem pullB_cfg (s : State) : (pullB s).cfg = s.cfg := by simp [pullB]
@[simp] theorem pullB_script (s : State) : (pullB s).script = s.script := by simp [pullB]
@[simp] theorem pullB_flag (s : State) (f : Flag) : (pullB s).flag f = s.flag f := by simp [pullB]
@[simp] theorem pullB_stored (s : State) (k : Word) : (pullB s).stored k = s.stored k := by simp [pullB]

/-! pullX -/

@[simp] theorem pullX_a (s : State) : (pullX s).a = s.a := by simp [pullX]
@[simp] theorem pullX_b (s : State) : (pullX s).b = s.b := by simp [pullX]
@[simp] theorem pullX_x (s : State) : (pullX s).x = (pull16 s).1 := by simp [pullX]
@[simp] theorem pullX_y (s : State) : (pullX s).y = s.y := by simp [pullX]
@[simp] theorem pullX_sp (s : State) : (pullX s).sp = s.sp + 2 := by simp [pullX]
@[simp] theorem pullX_pc (s : State) : (pullX s).pc = s.pc := by simp [pullX]
@[simp] theorem pullX_ccr (s : State) : (pullX s).ccr = s.ccr := by simp [pullX]
@[simp] theorem pullX_mem (s : State) : (pullX s).mem = s.mem := by simp [pullX]
@[simp] theorem pullX_run (s : State) : (pullX s).run = s.run := by simp [pullX]
@[simp] theorem pullX_irqInhibit (s : State) : (pullX s).irqInhibit = s.irqInhibit := by simp [pullX]
@[simp] theorem pullX_lines (s : State) : (pullX s).lines = s.lines := by simp [pullX]
@[simp] theorem pullX_resets (s : State) : (pullX s).resets = s.resets := by simp [pullX]
@[simp] theorem pullX_cfg (s : State) : (pullX s).cfg = s.cfg := by simp [pullX]
@[simp] theorem pullX_script (s : State) : (pullX s).script = s.script := by simp [pullX]
@[simp] theorem pullX_flag (s : State) (f : Flag) : (pullX s).flag f = s.flag f := by simp [pullX]
@[simp] theorem pullX_stored (s : State) (k : Word) : (pullX s).stored k = s.stored k := by simp [pullX]

/-! pullY -/

@[simp] theorem pullY_a (s : State) : (pullY s).a = s.a := by simp [pullY]
@[simp] theorem pullY_b (s : State) : (pullY s).b = s.b := by simp [pullY]
@[simp] theorem pullY_x (s : State) : (pullY s).x = s.x := by simp [pullY]
@[simp] theorem pullY_y (s : State) : (pullY s).y = (pull16 s).1 := by simp [pullY]
@[simp] theorem pullY_sp (s : State) : (pullY s).sp = s.sp + 2 := by simp [pullY]
@[simp] theorem pullY_pc (s : State) : (pullY s).pc = s.pc := by simp [pullY]
@[simp] theorem pullY_ccr (s : State) : (pullY s).ccr = s.ccr := by simp [pullY]
@[simp] theorem pullY_mem (s : State) : (pullY s).mem = s.mem := by simp [pullY]
@[simp] theorem pullY_run (s : State) : (pullY s).run = s.run := by simp [pullY]
@[simp] theorem pullY_irqInhibit (s : State) : (pullY s).irqInhibit = s.irqInhibit := by simp [pullY]
@[simp] theorem pullY_lines (s : State) : (pullY s).lines = s.lines := by simp [pullY]
@[simp] theorem pullY_resets (s : State) : (pullY s).resets = s.resets := by simp [pullY]
@[simp] theorem pullY_cfg (s : State) : (pullY s).cfg = s.cfg := by simp [pullY]
@[simp] theorem pullY_script (s : State) : (pullY s).script = s.script := by simp [pullY]
@[simp] theorem pullY_flag (s : State) (f : Flag) : (pullY s).flag f = s.flag f := by simp [pullY]
@[simp] theorem pullY_stored (s : State) (k : Word) : (pullY s).stored k = s.stored k := by simp [pullY]

/-! pullPc -/

@[simp] theorem pullPc_a (s : State) : (pullPc s).a = s.a := by simp [pullPc]
@[simp] theorem pullPc_b (s : State) : (pullPc s).b = s.b := by simp [pullPc]
@[simp] theorem pullPc_x (s : State) : (pullPc s).x = s.x := by simp [pullPc]
@[simp] theorem pullPc_y (s : State) : (pullPc s).y = s.y := by simp [pullPc]
@[simp] theorem pullPc_sp (s : State) : (pullPc s).sp = s.sp + 2 := by simp [pullPc]
@[simp] theorem pullPc_pc (s : State) : (pullPc s).pc = (pull16 s).1 := by simp [pullPc]
@[simp] theorem pullPc_ccr (s : State) : (pullPc s).ccr = s.ccr := by simp [pullPc]
@[simp] theorem pullPc_mem (s : State) : (pullPc s).mem = s.mem := by simp [pullPc]
@[simp] theorem pullPc_run (s : State) : (pullPc s).run = s.run := by simp [pullPc]
@[simp] theorem pullPc_irqInhibit (s : State) : (pullPc s).irqInhibit = s.irqInhibit := by simp [pullPc]
@[simp] theorem pullPc_lines (s : State) : (pullPc s).lines = s.lines := by simp [pullPc]
@[simp] theorem pullPc_resets (s : State) : (pullPc s).resets = s.resets := by simp [pullPc]
@[simp] theorem pullPc_cfg (s : State) : (pullPc s).cfg = s.cfg := by simp [pullPc]
@[simp] theorem pullPc_script (s : State) : (pullPc s).script = s.script := by simp [pullPc]
@[simp] theorem pullPc_flag (s : State) (f : Flag) : (pullPc s).flag f = s.flag f := by simp [pullPc]
@[simp] theorem pullPc_stored (s : State) (k : Word) : (pullPc s).stored k = s.stored k := by simp [pullPc]

/-! pullCcr -/

@[simp] theorem pullCcr_a (s : State) : (pullCcr s).a = s.a := by simp [pullCcr]
@[simp] theorem pullCcr_b (s : State) : (pullCcr s).b = s.b := by simp [pullCcr]
@[simp] theorem pullCcr_x (s : State) : (pullCcr s).x = s.x := by simp [pullCcr]
@[simp] theorem pullCcr_y (s : State) : (pullCcr s).y = s.y := by simp [pullCcr]
@[simp] theorem pullCcr_sp (s : State) : (pullCcr s).sp = s.sp + 1 := by simp [pullCcr]
@[simp] theorem pullCcr_pc (s : State) : (pullCcr s).pc = s.pc := by simp [pullCcr]
@[simp] theorem pullCcr_ccr (s : State) : (pullCcr s).ccr = ccrLoad s.ccr (pull8 s).1 := by simp [pullCcr]
@[simp] theorem pullCcr_mem (s : State) : (pullCcr s).mem = s.mem := by simp [pullCcr]
@[simp] theorem pullCcr_run (s : State) : (pullCcr s).run = s.run := by simp [pullCcr]
@[simp] theorem pullCcr_irqInhibit (s : State) : (pullCcr s).irqInhibit = s.irqInhibit := by simp [pullCcr]
@[simp] theorem pullCcr_lines (s : State) : (pullCcr s).lines = s.lines := by simp [pullCcr]
@[simp] theorem pullCcr_resets (s : State) : (pullCcr s).resets = s.resets := by simp [pullCcr]
@[simp] theorem pullCcr_cfg (s : State) : (pullCcr s).cfg = s.cfg := by simp [pullCcr]
@[simp] theorem pullCcr_script (s : State) : (pullCcr s).script = s.script := by simp [pullCcr]
@[simp] theorem pullCcr_stored (s : State) (k : Word) : (pullCcr s).stored k = s.stored k := by simp [pullCcr]

theorem returnFromInterrupt_frame (s : State) :
    returnFromInterrupt s =
      { s with
        a := (returnFromInterrupt s).a, b := (returnFromInterrupt s).b, x := (returnFromInterrupt s).x,
        y := (returnFromInterrupt s).y, sp := s.sp + 9, pc := (returnFromInterrupt s).pc,
        ccr := (returnFromInterrupt s).ccr, io := (returnFromInterrupt s).io, events := (returnFromInterrupt s).events,
        draws := (returnFromInterrupt s).draws, busScript := (returnFromInterrupt s).busScript } := by
  rw [State.ext_iff]
  simp only [returnFromInterrupt, pullPc_sp, pullY_sp, pullX_sp, pullA_sp, pullB_sp, pullCcr_sp, pullPc_mem, pullY_mem,
    pullX_mem, pullA_mem, pullB_mem, pullCcr_mem, pullPc_run, pullY_run, pullX_run, pullA_run, pullB_run, pullCcr_run,
    pullPc_irqInhibit, pullY_irqInhibit, pullX_irqInhibit, pullA_irqInhibit, pullB_irqInhibit, pullCcr_irqInhibit,
    pullPc_lines, pullY_lines, pullX_lines, pullA_lines, pullB_lines, pullCcr_lines, pullPc_resets, pullY_resets,
    pullX_resets, pullA_resets, pullB_resets, pullCcr_resets, pullPc_cfg, pullY_cfg, pullX_cfg, pullA_cfg, pullB_cfg, pullCcr_cfg, pullPc_script, pullY_script,
    pullX_script, pullA_script, pullB_script, pullCcr_script, true_and, and_true]
  bv_omega

/-! Every field returnFromInterrupt leaves alone. -/

@[simp] theorem returnFromInterrupt_mem (s : State) : (returnFromInterrupt s).mem = s.mem := by
  rw [returnFromInterrupt_frame]
@[simp] theorem returnFromInterrupt_run (s : State) : (returnFromInterrupt s).run = s.run := by
  rw [returnFromInterrupt_frame]
@[simp] theorem returnFromInterrupt_irqInhibit (s : State) : (returnFromInterrupt s).irqInhibit = s.irqInhibit := by
  rw [returnFromInterrupt_frame]
@[simp] theorem returnFromInterrupt_lines (s : State) : (returnFromInterrupt s).lines = s.lines := by
  rw [returnFromInterrupt_frame]
@[simp] theorem returnFromInterrupt_resets (s : State) : (returnFromInterrupt s).resets = s.resets := by
  rw [returnFromInterrupt_frame]
@[simp] theorem returnFromInterrupt_cfg (s : State) : (returnFromInterrupt s).cfg = s.cfg := by
  rw [returnFromInterrupt_frame]
@[simp] theorem returnFromInterrupt_script (s : State) : (returnFromInterrupt s).script = s.script := by
  rw [returnFromInterrupt_frame]

@[simp] theorem returnFromInterrupt_sp (s : State) : (returnFromInterrupt s).sp = s.sp + 9 := by
  rw [returnFromInterrupt_frame]

/-- The CCR after RTI is the pulled byte, but X only where it was already 1 (R29, R366). -/
@[simp] theorem returnFromInterrupt_ccr (s : State) :
    (returnFromInterrupt s).ccr = ccrLoad s.ccr (pull8 s).1 := by
  simp [returnFromInterrupt]

end Sys2Proof.Machine
end

