-- ==== Sys2Proof/Laws/Boundary.lean ====
section
/-! SUPPORT. The environment's turn, the reset sequence and the fetch: all each can change. -/

namespace Sys2Proof.Machine

/-! ### The environment -/

/-- An event changes only the request lines, the asserted resets, the register block and the count of free values. -/
theorem applyEvent_frame (e : EnvEvent) (s : State) :
    applyEvent e s =
      { s with
        lines := (applyEvent e s).lines, resets := (applyEvent e s).resets, io := (applyEvent e s).io,
        draws := (applyEvent e s).draws } := by
  cases e with
  | assertLine l => simp only [applyEvent]; split <;> rfl
  | withdrawLine l => rfl
  | assertReset c => simp only [applyEvent]; split <;> rfl
  | timer e => rw [applyEvent, applyTimer_frame]

theorem applyEvents_frame (es : List EnvEvent) (s : State) :
    applyEvents es s =
      { s with
        lines := (applyEvents es s).lines, resets := (applyEvents es s).resets, io := (applyEvents es s).io,
        draws := (applyEvents es s).draws } := by
  induction es generalizing s with
  | nil => rfl
  | cons e t ih =>
    simp only [applyEvents]
    rw [ih, applyEvent_frame]

/-- The environment's turn changes the lines, the resets, the register block, the count of free values and the script. -/
theorem envTurn_frame (s : State) :
    envTurn s =
      { s with
        lines := (envTurn s).lines, resets := (envTurn s).resets, io := (envTurn s).io,
        draws := (envTurn s).draws, script := (envTurn s).script } := by
  unfold envTurn
  split
  · rfl
  · rw [applyEvents_frame]; rfl

@[simp] theorem envTurn_a (s : State) : (envTurn s).a = s.a := by rw [envTurn_frame]
@[simp] theorem envTurn_b (s : State) : (envTurn s).b = s.b := by rw [envTurn_frame]
@[simp] theorem envTurn_x (s : State) : (envTurn s).x = s.x := by rw [envTurn_frame]
@[simp] theorem envTurn_y (s : State) : (envTurn s).y = s.y := by rw [envTurn_frame]
@[simp] theorem envTurn_sp (s : State) : (envTurn s).sp = s.sp := by rw [envTurn_frame]
@[simp] theorem envTurn_pc (s : State) : (envTurn s).pc = s.pc := by rw [envTurn_frame]
@[simp] theorem envTurn_ccr (s : State) : (envTurn s).ccr = s.ccr := by rw [envTurn_frame]
@[simp] theorem envTurn_mem (s : State) : (envTurn s).mem = s.mem := by rw [envTurn_frame]
@[simp] theorem envTurn_run (s : State) : (envTurn s).run = s.run := by rw [envTurn_frame]
@[simp] theorem envTurn_irqInhibit (s : State) : (envTurn s).irqInhibit = s.irqInhibit := by rw [envTurn_frame]
@[simp] theorem envTurn_events (s : State) : (envTurn s).events = s.events := by rw [envTurn_frame]
@[simp] theorem envTurn_cfg (s : State) : (envTurn s).cfg = s.cfg := by rw [envTurn_frame]
@[simp] theorem envTurn_busScript (s : State) : (envTurn s).busScript = s.busScript := by rw [envTurn_frame]

/-- A silent boundary. -/
theorem envTurn_nil {s : State} (h : s.script = []) : envTurn s = s := by
  unfold envTurn; rw [h]

theorem applyEvents_stopped_io {s : State} (h : s.run = .stopped) (es : List EnvEvent) :
    (applyEvents es s).io = s.io := by
  induction es generalizing s with
  | nil => rfl
  | cons e t ih =>
    have k : (applyEvent e s).io = s.io := by
      cases e with
      | assertLine l => simp only [applyEvent]; split <;> rfl
      | withdrawLine l => rfl
      | assertReset c => simp only [applyEvent]; split <;> rfl
      | timer e => rw [applyEvent, applyTimer_stopped h]
    simp only [applyEvents]
    rw [ih (by rw [applyEvent_frame]; exact h), k]

/-- While the machine is stopped the environment's turn leaves the register block alone (R384, R480). -/
theorem envTurn_stopped_io {s : State} (h : s.run = .stopped) : (envTurn s).io = s.io := by
  unfold envTurn
  split
  · rfl
  · rename_i es rest _
    exact applyEvents_stopped_io (s := s.setScript rest) h es

/-! ### Reset -/

/-- The state the reset vector is fetched on. -/
def resetBase (c : ResetCause) (s : State) : State :=
  (((resetIo (resetCcr (freeRegisters s))).setRun .running).setIrqInhibit false).setResets
    (s.resets.filter (fun d => decide (d ≠ c)))

theorem resetSequence_eq (c : ResetCause) (s : State) :
    resetSequence c s =
      (memRead16 (resetVector c) (resetBase c s)).2.setPc (memRead16 (resetVector c) (resetBase c s)).1 := rfl

@[simp] theorem resetBase_mem (c : ResetCause) (s : State) : (resetBase c s).mem = s.mem := by
  simp [resetBase, resetIo, resetCcr, freeRegisters, drawByte, drawWord]
@[simp] theorem resetBase_cfg (c : ResetCause) (s : State) : (resetBase c s).cfg = s.cfg := by
  simp [resetBase, resetIo, resetCcr, freeRegisters, drawByte, drawWord]
@[simp] theorem resetBase_lines (c : ResetCause) (s : State) : (resetBase c s).lines = s.lines := by
  simp [resetBase, resetIo, resetCcr, freeRegisters, drawByte, drawWord]
@[simp] theorem resetBase_script (c : ResetCause) (s : State) : (resetBase c s).script = s.script := by
  simp [resetBase, resetIo, resetCcr, freeRegisters, drawByte, drawWord]
@[simp] theorem resetBase_busScript (c : ResetCause) (s : State) : (resetBase c s).busScript = s.busScript := by
  simp [resetBase, resetIo, resetCcr, freeRegisters, drawByte, drawWord]
@[simp] theorem resetBase_events (c : ResetCause) (s : State) : (resetBase c s).events = s.events := by
  simp [resetBase, resetIo, resetCcr, freeRegisters, drawByte, drawWord]
@[simp] theorem resetBase_resets (c : ResetCause) (s : State) :
    (resetBase c s).resets = s.resets.filter (fun d => decide (d ≠ c)) := rfl
@[simp] theorem resetBase_run (c : ResetCause) (s : State) : (resetBase c s).run = .running := rfl
@[simp] theorem resetBase_irqInhibit (c : ResetCause) (s : State) : (resetBase c s).irqInhibit = false := rfl

@[simp] theorem resetBase_tmsk1 (c : ResetCause) (s : State) : (resetBase c s).io.tmsk1 = 0 := by
  simp [resetBase, resetIo]

theorem resetBase_ccr (c : ResetCause) (s : State) : ∃ v, (resetBase c s).ccr = v ||| 0xD0 := by
  simp only [resetBase, resetIo, resetCcr, drawByte, drawWord, State.setResets_ccr, State.setIrqInhibit_ccr,
    State.setRun_ccr, State.setIo_ccr, State.setDraws_ccr, State.setCcr_ccr]
  exact ⟨_, rfl⟩

/-! ### Fetching -/

theorem fetch8_stored {s : State} (h : kindAt s.cfg s.pc = .ram ∨ kindAt s.cfg s.pc = .rom) :
    fetch8 s = (s.stored s.pc, s.setPc (s.pc + 1)) := by
  unfold fetch8; rw [memRead_eq_stored h]

/-- A fetch changes only PC and what a read changes. -/
theorem fetch8_frame (s : State) :
    (fetch8 s).2 =
      { s with
        pc := s.pc + 1, io := (fetch8 s).2.io, events := (fetch8 s).2.events, draws := (fetch8 s).2.draws,
        busScript := (fetch8 s).2.busScript } := by
  simp only [fetch8]
  rw [memRead_frame]
  rfl

theorem fetchN_frame (n : Nat) (s : State) :
    (fetchN n s).2 =
      { s with
        pc := s.pc + BitVec.ofNat 16 n, io := (fetchN n s).2.io, events := (fetchN n s).2.events,
        draws := (fetchN n s).2.draws, busScript := (fetchN n s).2.busScript } := by
  induction n generalizing s with
  | zero => rw [State.ext_iff]; simp [fetchN]
  | succ n ih =>
    have e : s.pc + 1 + BitVec.ofNat 16 n = s.pc + BitVec.ofNat 16 (n + 1) := by
      apply BitVec.eq_of_toNat_eq; simp; omega
    simp only [fetchN]
    rw [ih, fetch8_frame]
    simp only [e]

end Sys2Proof.Machine
end

