-- ==== Sys2Proof/Laws/Operands.lean ====
section
/-! SUPPORT. Operands: what reading one can change, and its value in memory. -/

namespace Sys2Proof.Machine

theorem operand8_frame (m : Src8) (s : State) :
    (operand8 m s).2 = { s with
        io := (operand8 m s).2.io, events := (operand8 m s).2.events, draws := (operand8 m s).2.draws,
        busScript := (operand8 m s).2.busScript } := by
  cases m with
  | imm v => rfl
  | mem e => exact memRead_frame (eaAddr e s) s

/-! Every field operand8 leaves alone. -/

@[simp] theorem operand8_a (m : Src8) (s : State) : (operand8 m s).2.a = s.a := by rw [operand8_frame]
@[simp] theorem operand8_b (m : Src8) (s : State) : (operand8 m s).2.b = s.b := by rw [operand8_frame]
@[simp] theorem operand8_x (m : Src8) (s : State) : (operand8 m s).2.x = s.x := by rw [operand8_frame]
@[simp] theorem operand8_y (m : Src8) (s : State) : (operand8 m s).2.y = s.y := by rw [operand8_frame]
@[simp] theorem operand8_sp (m : Src8) (s : State) : (operand8 m s).2.sp = s.sp := by rw [operand8_frame]
@[simp] theorem operand8_pc (m : Src8) (s : State) : (operand8 m s).2.pc = s.pc := by rw [operand8_frame]
@[simp] theorem operand8_ccr (m : Src8) (s : State) : (operand8 m s).2.ccr = s.ccr := by rw [operand8_frame]
@[simp] theorem operand8_mem (m : Src8) (s : State) : (operand8 m s).2.mem = s.mem := by rw [operand8_frame]
@[simp] theorem operand8_run (m : Src8) (s : State) : (operand8 m s).2.run = s.run := by rw [operand8_frame]
@[simp] theorem operand8_irqInhibit (m : Src8) (s : State) : (operand8 m s).2.irqInhibit = s.irqInhibit := by rw [operand8_frame]
@[simp] theorem operand8_lines (m : Src8) (s : State) : (operand8 m s).2.lines = s.lines := by rw [operand8_frame]
@[simp] theorem operand8_resets (m : Src8) (s : State) : (operand8 m s).2.resets = s.resets := by rw [operand8_frame]
@[simp] theorem operand8_cfg (m : Src8) (s : State) : (operand8 m s).2.cfg = s.cfg := by rw [operand8_frame]
@[simp] theorem operand8_script (m : Src8) (s : State) : (operand8 m s).2.script = s.script := by rw [operand8_frame]

@[simp] theorem operand8_flag (m : Src8) (s : State) (f : Flag) : (operand8 m s).2.flag f = s.flag f := by
  rw [State.flag, operand8_ccr]; rfl

@[simp] theorem operand8_stored (m : Src8) (s : State) (k : Word) : (operand8 m s).2.stored k = s.stored k := by
  rw [State.stored, operand8_mem]; rfl

theorem operand16_frame (m : Src16) (s : State) :
    (operand16 m s).2 = { s with
        io := (operand16 m s).2.io, events := (operand16 m s).2.events, draws := (operand16 m s).2.draws,
        busScript := (operand16 m s).2.busScript } := by
  cases m with
  | imm v => rfl
  | mem e => exact memRead16_frame (eaAddr e s) s

/-! Every field operand16 leaves alone. -/

@[simp] theorem operand16_a (m : Src16) (s : State) : (operand16 m s).2.a = s.a := by rw [operand16_frame]
@[simp] theorem operand16_b (m : Src16) (s : State) : (operand16 m s).2.b = s.b := by rw [operand16_frame]
@[simp] theorem operand16_x (m : Src16) (s : State) : (operand16 m s).2.x = s.x := by rw [operand16_frame]
@[simp] theorem operand16_y (m : Src16) (s : State) : (operand16 m s).2.y = s.y := by rw [operand16_frame]
@[simp] theorem operand16_sp (m : Src16) (s : State) : (operand16 m s).2.sp = s.sp := by rw [operand16_frame]
@[simp] theorem operand16_pc (m : Src16) (s : State) : (operand16 m s).2.pc = s.pc := by rw [operand16_frame]
@[simp] theorem operand16_ccr (m : Src16) (s : State) : (operand16 m s).2.ccr = s.ccr := by rw [operand16_frame]
@[simp] theorem operand16_mem (m : Src16) (s : State) : (operand16 m s).2.mem = s.mem := by rw [operand16_frame]
@[simp] theorem operand16_run (m : Src16) (s : State) : (operand16 m s).2.run = s.run := by rw [operand16_frame]
@[simp] theorem operand16_irqInhibit (m : Src16) (s : State) : (operand16 m s).2.irqInhibit = s.irqInhibit := by rw [operand16_frame]
@[simp] theorem operand16_lines (m : Src16) (s : State) : (operand16 m s).2.lines = s.lines := by rw [operand16_frame]
@[simp] theorem operand16_resets (m : Src16) (s : State) : (operand16 m s).2.resets = s.resets := by rw [operand16_frame]
@[simp] theorem operand16_cfg (m : Src16) (s : State) : (operand16 m s).2.cfg = s.cfg := by rw [operand16_frame]
@[simp] theorem operand16_script (m : Src16) (s : State) : (operand16 m s).2.script = s.script := by rw [operand16_frame]

@[simp] theorem operand16_flag (m : Src16) (s : State) (f : Flag) : (operand16 m s).2.flag f = s.flag f := by
  rw [State.flag, operand16_ccr]; rfl

@[simp] theorem operand16_stored (m : Src16) (s : State) (k : Word) : (operand16 m s).2.stored k = s.stored k := by
  rw [State.stored, operand16_mem]; rfl

@[simp] theorem eaAddr_dir (d : Byte) (s : State) : eaAddr (.dir d) s = zext16 d := rfl
@[simp] theorem eaAddr_ext (a : Word) (s : State) : eaAddr (.ext a) s = a := rfl
@[simp] theorem eaAddr_indx (f : Byte) (s : State) : eaAddr (.indx f) s = s.x + zext16 f := rfl
@[simp] theorem eaAddr_indy (f : Byte) (s : State) : eaAddr (.indy f) s = s.y + zext16 f := rfl

end Sys2Proof.Machine
end

