-- ==== Sys2Proof/Laws/PerInstr.lean ====
section
/-! SUPPORT. One lemma per constructor of Instr: every instruction takes one to five bytes (30_encoding.md R90). -/

namespace Sys2Proof.Laws.EncodeLength

/-- A well-formed instruction takes one to five bytes. -/
def Statement (i : Instr) : Prop := i.WellFormed → 1 ≤ (encode i).length ∧ (encode i).length ≤ 5

/-- The bounds, from a length that evaluates. -/
theorem of_length {i : Instr} (l : Nat.ble 1 (encode i).length = true) (u : Nat.ble (encode i).length 5 = true) :
    Statement i :=
  fun _ => ⟨Nat.le_of_ble_eq_true l, Nat.le_of_ble_eq_true u⟩

theorem aba : Statement .aba := of_length rfl rfl
theorem abx : Statement .abx := of_length rfl rfl
theorem aby : Statement .aby := of_length rfl rfl
theorem adca (m : Src8) : Statement (.adca m) := by
  rcases m with _ | (_ | _ | _ | _) <;> exact of_length rfl rfl
theorem adcb (m : Src8) : Statement (.adcb m) := by
  rcases m with _ | (_ | _ | _ | _) <;> exact of_length rfl rfl
theorem adda (m : Src8) : Statement (.adda m) := by
  rcases m with _ | (_ | _ | _ | _) <;> exact of_length rfl rfl
theorem addb (m : Src8) : Statement (.addb m) := by
  rcases m with _ | (_ | _ | _ | _) <;> exact of_length rfl rfl
theorem addd (m : Src16) : Statement (.addd m) := by
  rcases m with _ | (_ | _ | _ | _) <;> exact of_length rfl rfl
theorem anda (m : Src8) : Statement (.anda m) := by
  rcases m with _ | (_ | _ | _ | _) <;> exact of_length rfl rfl
theorem andb (m : Src8) : Statement (.andb m) := by
  rcases m with _ | (_ | _ | _ | _) <;> exact of_length rfl rfl
theorem asl (ea : Ea) : Statement (.asl ea) := by
  rcases ea with _ | _ | _ | _ <;> first | exact of_length rfl rfl | nofun
theorem asla : Statement .asla := of_length rfl rfl
theorem aslb : Statement .aslb := of_length rfl rfl
theorem asld : Statement .asld := of_length rfl rfl
theorem asr (ea : Ea) : Statement (.asr ea) := by
  rcases ea with _ | _ | _ | _ <;> first | exact of_length rfl rfl | nofun
theorem asra : Statement .asra := of_length rfl rfl
theorem asrb : Statement .asrb := of_length rfl rfl
theorem bcc (rr : Byte) : Statement (.bcc rr) := of_length rfl rfl
theorem bcs (rr : Byte) : Statement (.bcs rr) := of_length rfl rfl
theorem beq (rr : Byte) : Statement (.beq rr) := of_length rfl rfl
theorem bge (rr : Byte) : Statement (.bge rr) := of_length rfl rfl
theorem bgt (rr : Byte) : Statement (.bgt rr) := of_length rfl rfl
theorem bhi (rr : Byte) : Statement (.bhi rr) := of_length rfl rfl
theorem bhs (rr : Byte) : Statement (.bhs rr) := of_length rfl rfl
theorem ble (rr : Byte) : Statement (.ble rr) := of_length rfl rfl
theorem blo (rr : Byte) : Statement (.blo rr) := of_length rfl rfl
theorem bls (rr : Byte) : Statement (.bls rr) := of_length rfl rfl
theorem blt (rr : Byte) : Statement (.blt rr) := of_length rfl rfl
theorem bmi (rr : Byte) : Statement (.bmi rr) := of_length rfl rfl
theorem bne (rr : Byte) : Statement (.bne rr) := of_length rfl rfl
theorem bpl (rr : Byte) : Statement (.bpl rr) := of_length rfl rfl
theorem bra (rr : Byte) : Statement (.bra rr) := of_length rfl rfl
theorem brn (rr : Byte) : Statement (.brn rr) := of_length rfl rfl
theorem bsr (rr : Byte) : Statement (.bsr rr) := of_length rfl rfl
theorem bvc (rr : Byte) : Statement (.bvc rr) := of_length rfl rfl
theorem bvs (rr : Byte) : Statement (.bvs rr) := of_length rfl rfl
theorem bclr (ea : Ea) (mm : Byte) : Statement (.bclr ea mm) := by
  rcases ea with _ | _ | _ | _ <;> first | exact of_length rfl rfl | nofun
theorem bset (ea : Ea) (mm : Byte) : Statement (.bset ea mm) := by
  rcases ea with _ | _ | _ | _ <;> first | exact of_length rfl rfl | nofun
theorem brclr (ea : Ea) (mm : Byte) (rr : Byte) : Statement (.brclr ea mm rr) := by
  rcases ea with _ | _ | _ | _ <;> first | exact of_length rfl rfl | nofun
theorem brset (ea : Ea) (mm : Byte) (rr : Byte) : Statement (.brset ea mm rr) := by
  rcases ea with _ | _ | _ | _ <;> first | exact of_length rfl rfl | nofun
theorem bita (m : Src8) : Statement (.bita m) := by
  rcases m with _ | (_ | _ | _ | _) <;> exact of_length rfl rfl
theorem bitb (m : Src8) : Statement (.bitb m) := by
  rcases m with _ | (_ | _ | _ | _) <;> exact of_length rfl rfl
theorem cba : Statement .cba := of_length rfl rfl
theorem clc : Statement .clc := of_length rfl rfl
theorem cli : Statement .cli := of_length rfl rfl
theorem clr (ea : Ea) : Statement (.clr ea) := by
  rcases ea with _ | _ | _ | _ <;> first | exact of_length rfl rfl | nofun
theorem clra : Statement .clra := of_length rfl rfl
theorem clrb : Statement .clrb := of_length rfl rfl
theorem clv : Statement .clv := of_length rfl rfl
theorem cmpa (m : Src8) : Statement (.cmpa m) := by
  rcases m with _ | (_ | _ | _ | _) <;> exact of_length rfl rfl
theorem cmpb (m : Src8) : Statement (.cmpb m) := by
  rcases m with _ | (_ | _ | _ | _) <;> exact of_length rfl rfl
theorem com (ea : Ea) : Statement (.com ea) := by
  rcases ea with _ | _ | _ | _ <;> first | exact of_length rfl rfl | nofun
theorem coma : Statement .coma := of_length rfl rfl
theorem comb : Statement .comb := of_length rfl rfl
theorem cpd (m : Src16) : Statement (.cpd m) := by
  rcases m with _ | (_ | _ | _ | _) <;> exact of_length rfl rfl
theorem cpx (m : Src16) : Statement (.cpx m) := by
  rcases m with _ | (_ | _ | _ | _) <;> exact of_length rfl rfl
theorem cpy (m : Src16) : Statement (.cpy m) := by
  rcases m with _ | (_ | _ | _ | _) <;> exact of_length rfl rfl
theorem daa : Statement .daa := of_length rfl rfl
theorem dec (ea : Ea) : Statement (.dec ea) := by
  rcases ea with _ | _ | _ | _ <;> first | exact of_length rfl rfl | nofun
theorem deca : Statement .deca := of_length rfl rfl
theorem decb : Statement .decb := of_length rfl rfl
theorem des : Statement .des := of_length rfl rfl
theorem dex : Statement .dex := of_length rfl rfl
theorem dey : Statement .dey := of_length rfl rfl
theorem eora (m : Src8) : Statement (.eora m) := by
  rcases m with _ | (_ | _ | _ | _) <;> exact of_length rfl rfl
theorem eorb (m : Src8) : Statement (.eorb m) := by
  rcases m with _ | (_ | _ | _ | _) <;> exact of_length rfl rfl
theorem fdiv : Statement .fdiv := of_length rfl rfl
theorem idiv : Statement .idiv := of_length rfl rfl
theorem inc (ea : Ea) : Statement (.inc ea) := by
  rcases ea with _ | _ | _ | _ <;> first | exact of_length rfl rfl | nofun
theorem inca : Statement .inca := of_length rfl rfl
theorem incb : Statement .incb := of_length rfl rfl
theorem ins : Statement .ins := of_length rfl rfl
theorem inx : Statement .inx := of_length rfl rfl
theorem iny : Statement .iny := of_length rfl rfl
theorem jmp (ea : Ea) : Statement (.jmp ea) := by
  rcases ea with _ | _ | _ | _ <;> first | exact of_length rfl rfl | nofun
theorem jsr (ea : Ea) : Statement (.jsr ea) := by
  rcases ea with _ | _ | _ | _ <;> exact of_length rfl rfl
theorem ldaa (m : Src8) : Statement (.ldaa m) := by
  rcases m with _ | (_ | _ | _ | _) <;> exact of_length rfl rfl
theorem ldab (m : Src8) : Statement (.ldab m) := by
  rcases m with _ | (_ | _ | _ | _) <;> exact of_length rfl rfl
theorem ldd (m : Src16) : Statement (.ldd m) := by
  rcases m with _ | (_ | _ | _ | _) <;> exact of_length rfl rfl
theorem lds (m : Src16) : Statement (.lds m) := by
  rcases m with _ | (_ | _ | _ | _) <;> exact of_length rfl rfl
theorem ldx (m : Src16) : Statement (.ldx m) := by
  rcases m with _ | (_ | _ | _ | _) <;> exact of_length rfl rfl
theorem ldy (m : Src16) : Statement (.ldy m) := by
  rcases m with _ | (_ | _ | _ | _) <;> exact of_length rfl rfl
theorem lsl (ea : Ea) : Statement (.lsl ea) := by
  rcases ea with _ | _ | _ | _ <;> first | exact of_length rfl rfl | nofun
theorem lsla : Statement .lsla := of_length rfl rfl
theorem lslb : Statement .lslb := of_length rfl rfl
theorem lsld : Statement .lsld := of_length rfl rfl
theorem lsr (ea : Ea) : Statement (.lsr ea) := by
  rcases ea with _ | _ | _ | _ <;> first | exact of_length rfl rfl | nofun
theorem lsra : Statement .lsra := of_length rfl rfl
theorem lsrb : Statement .lsrb := of_length rfl rfl
theorem lsrd : Statement .lsrd := of_length rfl rfl
theorem mul : Statement .mul := of_length rfl rfl
theorem neg (ea : Ea) : Statement (.neg ea) := by
  rcases ea with _ | _ | _ | _ <;> first | exact of_length rfl rfl | nofun
theorem nega : Statement .nega := of_length rfl rfl
theorem negb : Statement .negb := of_length rfl rfl
theorem nop : Statement .nop := of_length rfl rfl
theorem oraa (m : Src8) : Statement (.oraa m) := by
  rcases m with _ | (_ | _ | _ | _) <;> exact of_length rfl rfl
theorem orab (m : Src8) : Statement (.orab m) := by
  rcases m with _ | (_ | _ | _ | _) <;> exact of_length rfl rfl
theorem psha : Statement .psha := of_length rfl rfl
theorem pshb : Statement .pshb := of_length rfl rfl
theorem pshx : Statement .pshx := of_length rfl rfl
theorem pshy : Statement .pshy := of_length rfl rfl
theorem pula : Statement .pula := of_length rfl rfl
theorem pulb : Statement .pulb := of_length rfl rfl
theorem pulx : Statement .pulx := of_length rfl rfl
theorem puly : Statement .puly := of_length rfl rfl
theorem rol (ea : Ea) : Statement (.rol ea) := by
  rcases ea with _ | _ | _ | _ <;> first | exact of_length rfl rfl | nofun
theorem rola : Statement .rola := of_length rfl rfl
theorem rolb : Statement .rolb := of_length rfl rfl
theorem ror (ea : Ea) : Statement (.ror ea) := by
  rcases ea with _ | _ | _ | _ <;> first | exact of_length rfl rfl | nofun
theorem rora : Statement .rora := of_length rfl rfl
theorem rorb : Statement .rorb := of_length rfl rfl
theorem rti : Statement .rti := of_length rfl rfl
theorem rts : Statement .rts := of_length rfl rfl
theorem sba : Statement .sba := of_length rfl rfl
theorem sbca (m : Src8) : Statement (.sbca m) := by
  rcases m with _ | (_ | _ | _ | _) <;> exact of_length rfl rfl
theorem sbcb (m : Src8) : Statement (.sbcb m) := by
  rcases m with _ | (_ | _ | _ | _) <;> exact of_length rfl rfl
theorem sec : Statement .sec := of_length rfl rfl
theorem sei : Statement .sei := of_length rfl rfl
theorem sev : Statement .sev := of_length rfl rfl
theorem staa (ea : Ea) : Statement (.staa ea) := by
  rcases ea with _ | _ | _ | _ <;> exact of_length rfl rfl
theorem stab (ea : Ea) : Statement (.stab ea) := by
  rcases ea with _ | _ | _ | _ <;> exact of_length rfl rfl
theorem std (ea : Ea) : Statement (.std ea) := by
  rcases ea with _ | _ | _ | _ <;> exact of_length rfl rfl
theorem stop : Statement .stop := of_length rfl rfl
theorem sts (ea : Ea) : Statement (.sts ea) := by
  rcases ea with _ | _ | _ | _ <;> exact of_length rfl rfl
theorem stx (ea : Ea) : Statement (.stx ea) := by
  rcases ea with _ | _ | _ | _ <;> exact of_length rfl rfl
theorem sty (ea : Ea) : Statement (.sty ea) := by
  rcases ea with _ | _ | _ | _ <;> exact of_length rfl rfl
theorem suba (m : Src8) : Statement (.suba m) := by
  rcases m with _ | (_ | _ | _ | _) <;> exact of_length rfl rfl
theorem subb (m : Src8) : Statement (.subb m) := by
  rcases m with _ | (_ | _ | _ | _) <;> exact of_length rfl rfl
theorem subd (m : Src16) : Statement (.subd m) := by
  rcases m with _ | (_ | _ | _ | _) <;> exact of_length rfl rfl
theorem swi : Statement .swi := of_length rfl rfl
theorem tab : Statement .tab := of_length rfl rfl
theorem tap : Statement .tap := of_length rfl rfl
theorem tba : Statement .tba := of_length rfl rfl
theorem test : Statement .test := of_length rfl rfl
theorem tpa : Statement .tpa := of_length rfl rfl
theorem tst (ea : Ea) : Statement (.tst ea) := by
  rcases ea with _ | _ | _ | _ <;> first | exact of_length rfl rfl | nofun
theorem tsta : Statement .tsta := of_length rfl rfl
theorem tstb : Statement .tstb := of_length rfl rfl
theorem tsx : Statement .tsx := of_length rfl rfl
theorem tsy : Statement .tsy := of_length rfl rfl
theorem txs : Statement .txs := of_length rfl rfl
theorem tys : Statement .tys := of_length rfl rfl
theorem wai : Statement .wai := of_length rfl rfl
theorem xgdx : Statement .xgdx := of_length rfl rfl
theorem xgdy : Statement .xgdy := of_length rfl rfl

end Sys2Proof.Laws.EncodeLength
end

