-- ==== Sys2Proof/Laws/Safety.lean ====
section
/-! SUPPORT. When a waiting or a stopped machine is asleep, and that it stays so while the environment asserts nothing
further (70_reset_and_hazards.md R510 (b)). -/

namespace Sys2Proof.Machine

theorem topReset_none {s : State} : topReset s = none ↔ ∀ c, c ∉ s.resets := by
  unfold topReset
  rw [List.find?_eq_none]
  refine ⟨fun h c hc => h c (by cases c <;> decide) (decide_eq_true hc), fun h c _ => by simpa using h c⟩

/-- No request would end a wait (48_t_w_x.md R432). -/
theorem selectUninhibited_none {s : State} :
    selectUninhibited s = none ↔
      ¬(Line.xirq ∈ s.lines ∧ s.flag .x = false) ∧
        (s.flag .i = true ∨ ∀ m ∈ priorityOrder s.cfg.promotedSource, requested s m = false) := by
  unfold selectUninhibited xirqRequested topMaskable
  by_cases hx : Line.xirq ∈ s.lines <;> cases s.flag .x <;> cases s.flag .i <;> simp [hx]

theorem waitStep_eq {s : State} (h : s.run = .waiting) : waitStep s = s ↔ selectUninhibited s = none := by
  unfold waitStep
  split
  · rename_i src e
    rw [e]
    exact ⟨fun k => absurd (congrArg State.run k) (by rw [trapEntry_run, h]; decide), fun k => by cases k⟩
  · rename_i e
    exact ⟨fun _ => e, fun _ => rfl⟩

theorem stopStep_eq {s : State} (h : s.run = .stopped) :
    stopStep s = s ↔ Line.xirq ∉ s.lines ∧ (requested s .irq = false ∨ s.flag .i = true) := by
  have wakes : ∀ t : State, t.run = .running → t ≠ s := fun t k e => by rw [← e, k] at h; cases h
  unfold stopStep xirqRequested
  by_cases hx : Line.xirq ∈ s.lines
  · rw [if_pos (decide_eq_true hx)]
    refine ⟨fun k => absurd k (wakes _ ?_), fun k => absurd hx k.1⟩
    split <;> rfl
  · rw [if_neg (by simpa using hx)]
    cases hr : requested s .irq <;> cases hi : s.flag .i <;> simp [hx]
    exact wakes _ rfl

/-- What asleep means: no reset is asserted, and nothing requested ends the wait or the stop. -/
theorem asleep_iff {s : State} :
    asleep s ↔ (∀ c, c ∉ s.resets) ∧
      (s.run = .waiting ∧ selectUninhibited s = none ∨
        s.run = .stopped ∧ Line.xirq ∉ s.lines ∧ (requested s .irq = false ∨ s.flag .i = true)) := by
  unfold asleep cpuStep
  rw [← topReset_none]
  cases hc : topReset s with
  | some c =>
    refine ⟨fun ⟨h, k⟩ => ?_, fun h => by cases h.1⟩
    have run : (resetSequence c s).run = s.run := congrArg State.run (Host.Outcome.next.inj k)
    rw [resetSequence_eq, State.setPc_run, memRead16_run, resetBase_run] at run
    rcases h with h | h <;> rw [h] at run <;> cases run
  | none =>
    cases h : s.run with
    | waiting => simp [← waitStep_eq h]
    | stopped => simp [← stopStep_eq h]
    | running => simp
    | hung => simp

/-- A machine asleep stays asleep at a boundary where nothing further is asserted. -/
theorem asleep_envTurn {s : State} (h : asleep s) (q : assertsNothing s (envTurn s)) : asleep (envTurn s) := by
  obtain ⟨hm, hx, hr⟩ := q
  rw [asleep_iff] at h ⊢
  have flag : ∀ f, (envTurn s).flag f = s.flag f := fun f => by rw [State.flag, envTurn_ccr]; rfl
  have off : ∀ m, requested s m = false → requested (envTurn s) m = false := fun m k => by
    cases e : requested (envTurn s) m
    · rfl
    · rw [hm m e] at k; cases k
  refine ⟨fun c k => h.1 c (hr c k), ?_⟩
  rw [envTurn_run]
  refine h.2.imp (fun k => ⟨k.1, ?_⟩) (fun k => ⟨k.1, fun e => k.2.1 (hx e), ?_⟩)
  · have w := selectUninhibited_none.1 k.2
    rw [selectUninhibited_none, flag, flag, envTurn_cfg]
    exact ⟨fun e => w.1 ⟨hx e.1, e.2⟩, w.2.imp id (fun n m i => off m (n m i))⟩
  · rw [flag]
    exact k.2.2.imp (off _) id

/-- The environment's turn takes the first entry of the script. -/
theorem envTurn_script (s : State) : (envTurn s).script = s.script.tail := by
  unfold envTurn
  split
  · rename_i e; rw [e]; rfl
  · rename_i e; rw [applyEvents_frame, e]; rfl

/-- R510 (b): a machine asleep in an environment that asserts nothing further takes the environment's turn and no more, and
is so still. -/
theorem asleep_stays {s : State} (h : asleep s) (q : quiet s) :
    step s = .next (envTurn s) ∧ asleep (envTurn s) ∧ quiet (envTurn s) := by
  have k : asleep (envTurn s) ∧ quiet (envTurn s) := by
    unfold quiet at q ⊢
    rw [envTurn_script]
    cases e : s.script with
    | nil => exact ⟨(envTurn_nil e).symm ▸ h, trivial⟩
    | cons es rest => rw [e] at q; exact ⟨asleep_envTurn h q.1, q.2⟩
  exact ⟨k.1.2, k⟩

end Sys2Proof.Machine
end

