-- ==== Sys2Proof/Tests/Slice0.lean ====
section
/-! SUPPORT. The model's own tests: the checks of well-formedness, decoded words, one step per instruction, and a state
and operands that meet the hypotheses of each statement that has any. Expected values of the step tests are the derived
vectors of 95_test_vectors.md, named by their ids; decoded words are written out from the tables of 30_encoding.md. -/

namespace Sys2Proof.Tests

open Sys2Proof.Machine Sys2Proof.Config Sys2Proof.Claims Host

/-! ### Well-formedness: one ill-formed term per check, refused -/

theorem test_wf_refuses_asl_direct : ¬(Instr.asl (.dir 0x40)).WellFormed := by decide
theorem test_wf_refuses_asr_direct : ¬(Instr.asr (.dir 0x40)).WellFormed := by decide
theorem test_wf_refuses_clr_direct : ¬(Instr.clr (.dir 0x40)).WellFormed := by decide
theorem test_wf_refuses_com_direct : ¬(Instr.com (.dir 0x40)).WellFormed := by decide
theorem test_wf_refuses_dec_direct : ¬(Instr.dec (.dir 0x40)).WellFormed := by decide
theorem test_wf_refuses_inc_direct : ¬(Instr.inc (.dir 0x40)).WellFormed := by decide
theorem test_wf_refuses_lsl_direct : ¬(Instr.lsl (.dir 0x40)).WellFormed := by decide
theorem test_wf_refuses_lsr_direct : ¬(Instr.lsr (.dir 0x40)).WellFormed := by decide
theorem test_wf_refuses_neg_direct : ¬(Instr.neg (.dir 0x40)).WellFormed := by decide
theorem test_wf_refuses_rol_direct : ¬(Instr.rol (.dir 0x40)).WellFormed := by decide
theorem test_wf_refuses_ror_direct : ¬(Instr.ror (.dir 0x40)).WellFormed := by decide
theorem test_wf_refuses_tst_direct : ¬(Instr.tst (.dir 0x40)).WellFormed := by decide
theorem test_wf_refuses_jmp_direct : ¬(Instr.jmp (.dir 0x40)).WellFormed := by decide
theorem test_wf_refuses_bset_extended : ¬(Instr.bset (.ext 0x0040) 0x01).WellFormed := by decide
theorem test_wf_refuses_bclr_extended : ¬(Instr.bclr (.ext 0x0040) 0x01).WellFormed := by decide
theorem test_wf_refuses_brset_extended : ¬(Instr.brset (.ext 0x0040) 0x01 0x10).WellFormed := by decide
theorem test_wf_refuses_brclr_extended : ¬(Instr.brclr (.ext 0x0040) 0x01 0x10).WellFormed := by decide

theorem test_wf_accepts : (Instr.asl (.indy 0x40)).WellFormed ∧ (Instr.jmp (.ext 0x35FF)).WellFormed ∧
    (Instr.brset (.dir 0x40) 0x01 0x10).WellFormed ∧ (Instr.staa (.dir 0x40)).WellFormed := by decide

/-! ### Decoding: a word of every constructor, from the tables (R103, R105, R106) -/

theorem test_decode_add_and_shift :
    decode [0x1B] = .ok (.aba, 1) ∧
    decode [0x3A] = .ok (.abx, 1) ∧
    decode [0x18, 0x3A] = .ok (.aby, 2) ∧
    decode [0xA9, 0x20] = .ok (.adca (.mem (.indx 0x20)), 2) ∧
    decode [0x18, 0xE9, 0x30] = .ok (.adcb (.mem (.indy 0x30)), 3) ∧
    decode [0x8B, 0x5A] = .ok (.adda (.imm 0x5A), 2) ∧
    decode [0xDB, 0x40] = .ok (.addb (.mem (.dir 0x40)), 2) ∧
    decode [0xF3, 0x12, 0x34] = .ok (.addd (.mem (.ext 0x1234)), 3) ∧
    decode [0xA4, 0x20] = .ok (.anda (.mem (.indx 0x20)), 2) ∧
    decode [0x18, 0xE4, 0x30] = .ok (.andb (.mem (.indy 0x30)), 3) ∧
    decode [0x68, 0x20] = .ok (.asl (.indx 0x20), 2) ∧
    decode [0x48] = .ok (.asla, 1) ∧
    decode [0x58] = .ok (.aslb, 1) ∧
    decode [0x05] = .ok (.asld, 1) ∧
    decode [0x18, 0x67, 0x30] = .ok (.asr (.indy 0x30), 3) ∧
    decode [0x47] = .ok (.asra, 1) ∧
    decode [0x57] = .ok (.asrb, 1) := by
  and_intros <;> rfl

theorem test_decode_branch_and_bit :
    decode [0x24, 0xFE] = .ok (.bcc 0xFE, 2) ∧
    decode [0x25, 0xFE] = .ok (.bcs 0xFE, 2) ∧
    decode [0x27, 0xFE] = .ok (.beq 0xFE, 2) ∧
    decode [0x2C, 0xFE] = .ok (.bge 0xFE, 2) ∧
    decode [0x2E, 0xFE] = .ok (.bgt 0xFE, 2) ∧
    decode [0x22, 0xFE] = .ok (.bhi 0xFE, 2) ∧
    decode [0x2F, 0xFE] = .ok (.ble 0xFE, 2) ∧
    decode [0x23, 0xFE] = .ok (.bls 0xFE, 2) ∧
    decode [0x2D, 0xFE] = .ok (.blt 0xFE, 2) ∧
    decode [0x2B, 0xFE] = .ok (.bmi 0xFE, 2) ∧
    decode [0x26, 0xFE] = .ok (.bne 0xFE, 2) ∧
    decode [0x2A, 0xFE] = .ok (.bpl 0xFE, 2) ∧
    decode [0x20, 0xFE] = .ok (.bra 0xFE, 2) ∧
    decode [0x21, 0xFE] = .ok (.brn 0xFE, 2) ∧
    decode [0x8D, 0xFE] = .ok (.bsr 0xFE, 2) ∧
    decode [0x28, 0xFE] = .ok (.bvc 0xFE, 2) ∧
    decode [0x29, 0xFE] = .ok (.bvs 0xFE, 2) ∧
    decode [0x15, 0x40, 0x81] = .ok (.bclr (.dir 0x40) 0x81, 3) ∧
    decode [0x1C, 0x20, 0x81] = .ok (.bset (.indx 0x20) 0x81, 3) ∧
    decode [0x18, 0x1F, 0x30, 0x81, 0xFE] = .ok (.brclr (.indy 0x30) 0x81 0xFE, 5) := by
  and_intros <;> rfl

theorem test_decode_branch_and_bit_2 :
    decode [0x12, 0x40, 0x81, 0xFE] = .ok (.brset (.dir 0x40) 0x81 0xFE, 4) ∧
    decode [0x85, 0x5A] = .ok (.bita (.imm 0x5A), 2) ∧
    decode [0xD5, 0x40] = .ok (.bitb (.mem (.dir 0x40)), 2) := by
  and_intros <;> rfl

theorem test_decode_compare_clear :
    decode [0x11] = .ok (.cba, 1) ∧
    decode [0x0C] = .ok (.clc, 1) ∧
    decode [0x0E] = .ok (.cli, 1) ∧
    decode [0x7F, 0x12, 0x34] = .ok (.clr (.ext 0x1234), 3) ∧
    decode [0x4F] = .ok (.clra, 1) ∧
    decode [0x5F] = .ok (.clrb, 1) ∧
    decode [0x0A] = .ok (.clv, 1) ∧
    decode [0x18, 0xA1, 0x30] = .ok (.cmpa (.mem (.indy 0x30)), 3) ∧
    decode [0xC1, 0x5A] = .ok (.cmpb (.imm 0x5A), 2) ∧
    decode [0x73, 0x12, 0x34] = .ok (.com (.ext 0x1234), 3) ∧
    decode [0x43] = .ok (.coma, 1) ∧
    decode [0x53] = .ok (.comb, 1) ∧
    decode [0xCD, 0xA3, 0x30] = .ok (.cpd (.mem (.indy 0x30)), 3) ∧
    decode [0x8C, 0x17, 0x70] = .ok (.cpx (.imm 0x1770), 3) ∧
    decode [0x18, 0x9C, 0x40] = .ok (.cpy (.mem (.dir 0x40)), 3) := by
  and_intros <;> rfl

theorem test_decode_decimal_divide :
    decode [0x19] = .ok (.daa, 1) ∧
    decode [0x6A, 0x20] = .ok (.dec (.indx 0x20), 2) ∧
    decode [0x4A] = .ok (.deca, 1) ∧
    decode [0x5A] = .ok (.decb, 1) ∧
    decode [0x34] = .ok (.des, 1) ∧
    decode [0x09] = .ok (.dex, 1) ∧
    decode [0x18, 0x09] = .ok (.dey, 2) ∧
    decode [0x18, 0xA8, 0x30] = .ok (.eora (.mem (.indy 0x30)), 3) ∧
    decode [0xC8, 0x5A] = .ok (.eorb (.imm 0x5A), 2) ∧
    decode [0x03] = .ok (.fdiv, 1) ∧
    decode [0x02] = .ok (.idiv, 1) ∧
    decode [0x18, 0x6C, 0x30] = .ok (.inc (.indy 0x30), 3) ∧
    decode [0x4C] = .ok (.inca, 1) ∧
    decode [0x5C] = .ok (.incb, 1) ∧
    decode [0x31] = .ok (.ins, 1) ∧
    decode [0x08] = .ok (.inx, 1) ∧
    decode [0x18, 0x08] = .ok (.iny, 2) := by
  and_intros <;> rfl

theorem test_decode_jump_load :
    decode [0x18, 0x6E, 0x30] = .ok (.jmp (.indy 0x30), 3) ∧
    decode [0x18, 0xAD, 0x30] = .ok (.jsr (.indy 0x30), 3) ∧
    decode [0x96, 0x40] = .ok (.ldaa (.mem (.dir 0x40)), 2) ∧
    decode [0xF6, 0x12, 0x34] = .ok (.ldab (.mem (.ext 0x1234)), 3) ∧
    decode [0xEC, 0x20] = .ok (.ldd (.mem (.indx 0x20)), 2) ∧
    decode [0x18, 0xAE, 0x30] = .ok (.lds (.mem (.indy 0x30)), 3) ∧
    decode [0xCE, 0x17, 0x70] = .ok (.ldx (.imm 0x1770), 3) ∧
    decode [0x18, 0xDE, 0x40] = .ok (.ldy (.mem (.dir 0x40)), 3) ∧
    decode [0x18, 0x64, 0x30] = .ok (.lsr (.indy 0x30), 3) ∧
    decode [0x44] = .ok (.lsra, 1) ∧
    decode [0x54] = .ok (.lsrb, 1) ∧
    decode [0x04] = .ok (.lsrd, 1) := by
  and_intros <;> rfl

theorem test_decode_multiply_stack :
    decode [0x3D] = .ok (.mul, 1) ∧
    decode [0x60, 0x20] = .ok (.neg (.indx 0x20), 2) ∧
    decode [0x40] = .ok (.nega, 1) ∧
    decode [0x50] = .ok (.negb, 1) ∧
    decode [0x01] = .ok (.nop, 1) ∧
    decode [0x8A, 0x5A] = .ok (.oraa (.imm 0x5A), 2) ∧
    decode [0xDA, 0x40] = .ok (.orab (.mem (.dir 0x40)), 2) ∧
    decode [0x36] = .ok (.psha, 1) ∧
    decode [0x37] = .ok (.pshb, 1) ∧
    decode [0x3C] = .ok (.pshx, 1) ∧
    decode [0x18, 0x3C] = .ok (.pshy, 2) ∧
    decode [0x32] = .ok (.pula, 1) ∧
    decode [0x33] = .ok (.pulb, 1) ∧
    decode [0x38] = .ok (.pulx, 1) ∧
    decode [0x18, 0x38] = .ok (.puly, 2) := by
  and_intros <;> rfl

theorem test_decode_rotate_store :
    decode [0x79, 0x12, 0x34] = .ok (.rol (.ext 0x1234), 3) ∧
    decode [0x49] = .ok (.rola, 1) ∧
    decode [0x59] = .ok (.rolb, 1) ∧
    decode [0x76, 0x12, 0x34] = .ok (.ror (.ext 0x1234), 3) ∧
    decode [0x46] = .ok (.rora, 1) ∧
    decode [0x56] = .ok (.rorb, 1) ∧
    decode [0x3B] = .ok (.rti, 1) ∧
    decode [0x39] = .ok (.rts, 1) ∧
    decode [0x10] = .ok (.sba, 1) ∧
    decode [0x18, 0xA2, 0x30] = .ok (.sbca (.mem (.indy 0x30)), 3) ∧
    decode [0xC2, 0x5A] = .ok (.sbcb (.imm 0x5A), 2) ∧
    decode [0x0D] = .ok (.sec, 1) ∧
    decode [0x0F] = .ok (.sei, 1) ∧
    decode [0x0B] = .ok (.sev, 1) ∧
    decode [0x18, 0xA7, 0x30] = .ok (.staa (.indy 0x30), 3) ∧
    decode [0xD7, 0x40] = .ok (.stab (.dir 0x40), 2) ∧
    decode [0xFD, 0x12, 0x34] = .ok (.std (.ext 0x1234), 3) ∧
    decode [0xCF] = .ok (.stop, 1) ∧
    decode [0x18, 0xAF, 0x30] = .ok (.sts (.indy 0x30), 3) ∧
    decode [0xDF, 0x40] = .ok (.stx (.dir 0x40), 2) := by
  and_intros <;> rfl

theorem test_decode_rotate_store_2 :
    decode [0x18, 0xFF, 0x12, 0x34] = .ok (.sty (.ext 0x1234), 4) ∧
    decode [0x90, 0x40] = .ok (.suba (.mem (.dir 0x40)), 2) ∧
    decode [0xF0, 0x12, 0x34] = .ok (.subb (.mem (.ext 0x1234)), 3) ∧
    decode [0xA3, 0x20] = .ok (.subd (.mem (.indx 0x20)), 2) ∧
    decode [0x3F] = .ok (.swi, 1) := by
  and_intros <;> rfl

theorem test_decode_transfer :
    decode [0x16] = .ok (.tab, 1) ∧
    decode [0x06] = .ok (.tap, 1) ∧
    decode [0x17] = .ok (.tba, 1) ∧
    decode [0x00] = .ok (.test, 1) ∧
    decode [0x07] = .ok (.tpa, 1) ∧
    decode [0x7D, 0x12, 0x34] = .ok (.tst (.ext 0x1234), 3) ∧
    decode [0x4D] = .ok (.tsta, 1) ∧
    decode [0x5D] = .ok (.tstb, 1) ∧
    decode [0x30] = .ok (.tsx, 1) ∧
    decode [0x18, 0x30] = .ok (.tsy, 2) ∧
    decode [0x35] = .ok (.txs, 1) ∧
    decode [0x18, 0x35] = .ok (.tys, 2) ∧
    decode [0x3E] = .ok (.wai, 1) ∧
    decode [0x8F] = .ok (.xgdx, 1) ∧
    decode [0x18, 0x8F] = .ok (.xgdy, 2) := by
  and_intros <;> rfl

/-! Words of a second name decode to the first name (30_encoding.md R109). -/

theorem test_decode_second_names :
    decode [0x24, 0xFE] = .ok (.bcc 0xFE, 2) ∧
    decode [0x25, 0xFE] = .ok (.bcs 0xFE, 2) ∧
    decode [0x68, 0x20] = .ok (.asl (.indx 0x20), 2) ∧
    decode [0x48] = .ok (.asla, 1) ∧
    decode [0x58] = .ok (.aslb, 1) ∧
    decode [0x05] = .ok (.asld, 1) := by
  and_intros <;> rfl

/-! Holes of the pages (R107; V26 to V32). -/

theorem test_decode_illegal :
    decode [0x41] = .error (.illegalOpcode .page0 0x41) ∧
    decode [0x87] = .error (.illegalOpcode .page0 0x87) ∧
    decode [0xC7] = .error (.illegalOpcode .page0 0xC7) ∧
    decode [0x18, 0x01] = .error (.illegalOpcode .page18 0x01) ∧
    decode [0x18, 0x18, 0x08] = .error (.illegalOpcode .page18 0x18) ∧
    decode [0x1A, 0x86, 0x00] = .error (.illegalOpcode .page1A 0x86) ∧
    decode [0xCD, 0x08] = .error (.illegalOpcode .pageCD 0x08) := by
  and_intros <;> rfl

/-- The numbering of the opcode table: a row with a prebyte as its two leading bytes, any other with its first byte
lowest (R111). -/
theorem test_table_words :
    decodeTableWord 8 0x3B = some .rti ∧ decodeTableWord 16 0x188F = some .xgdy ∧
    decodeTableWord 16 0x5586 = some (.ldaa (.imm 0x55)) := by
  decide

/-! The encoder gives the words the spec writes out (S1, S5, S7). -/

theorem test_encode :
    encode (.ldaa (.mem (.indy 0x10))) = [0x18, 0xA6, 0x10] ∧ encode (.cpd (.imm 0x1770)) = [0x1A, 0x83, 0x17, 0x70] ∧
    encode (.jsr (.ext 0xC500)) = [0xBD, 0xC5, 0x00] ∧
    encode (.brset (.indy 0x00) 0x01 0x7F) = [0x18, 0x1E, 0x00, 0x01, 0x7F] := by
  decide

/-! ### One step: the vectors of 95_test_vectors.md, one per instruction -/

/-- RAM everywhere. -/
def allRam : Params := { Params.default with memoryMap := [⟨0x0000, 65536, .ram⟩] }

/-- The start state of the vectors. -/
def start : State := { State.reset with sp := 0x01FF, pc := 0x8000, cfg := allRam }

/-- Bytes stored at addresses. -/
def poke : List (Word × Byte) → State → State
  | [], s => s
  | p :: t, s => poke t (s.store p.1 p.2)

/-- A state with bytes stored at addresses and an instruction at PC. -/
def loaded (s : State) (mem : List (Word × Byte)) (code : List Byte) : State := storeBytes code s.pc (poke mem s)

/-- The outcome is a next state with a property. -/
def after (o : Outcome State Fault Refusal) (p : State → Bool) : Bool :=
  match o with
  | .next t => p t
  | _ => false

/-- One step of a state with bytes stored at addresses and an instruction at PC. -/
def runs (s : State) (mem : List (Word × Byte)) (code : List Byte) (p : State → Bool) : Bool :=
  after (step (loaded s mem code)) p

/-- A.02 (R130). -/
theorem test_aba : runs { start with a := 0x7F, b := 0x1 } [] [0x1B]
    (fun t => t.a == 0x80 && t.b == 0x1 && t.pc == 0x8001 && t.ccr == 0xFA) = true := by
  decide

/-- A.05 (R131). -/
theorem test_abx : runs { start with b := 0xFF, x := 0xFF80, ccr := 0xDF } [] [0x3A]
    (fun t => t.b == 0xFF && t.x == 0x7F && t.pc == 0x8001 && t.ccr == 0xDF) = true := by
  decide

/-- A.07 (R132). -/
theorem test_aby : runs { start with b := 0x80, y := 0x1000 } [] [0x18, 0x3A]
    (fun t => t.b == 0x80 && t.y == 0x1080 && t.pc == 0x8002 && t.ccr == 0xD0) = true := by
  decide

/-- A.11 (R133). -/
theorem test_adca : runs { start with a := 0x7F, ccr := 0xD1 } [(0x2000, 0x0)] [0xB9, 0x20, 0x00]
    (fun t => t.a == 0x80 && t.pc == 0x8003 && t.ccr == 0xFA) = true := by
  decide

/-- A.14 (R134). -/
theorem test_adcb : runs { start with b := 0x7F } [] [0xC9, 0x01]
    (fun t => t.b == 0x80 && t.pc == 0x8002 && t.ccr == 0xFA) = true := by
  decide

/-- A.16 (R135). -/
theorem test_adda : runs { start with a := 0xFF } [] [0x8B, 0x01]
    (fun t => t.a == 0x0 && t.pc == 0x8002 && t.ccr == 0xF5) = true := by
  decide

/-- A.20 (R136). -/
theorem test_addb : runs { start with b := 0x80, x := 0x100 } [(0x100, 0x80)] [0xEB, 0x00]
    (fun t => t.b == 0x0 && t.x == 0x100 && t.pc == 0x8002 && t.ccr == 0xD7) = true := by
  decide

/-- A.25 (R137). -/
theorem test_addd : runs { start with a := 0x80, b := 0x0 } [(0x2000, 0x80), (0x2001, 0x0)] [0xF3, 0x20, 0x00]
    (fun t => t.a == 0x0 && t.b == 0x0 && t.pc == 0x8003 && t.ccr == 0xD7) = true := by
  decide

/-- A.28 (R138). -/
theorem test_anda : runs { start with a := 0xF, ccr := 0xDA } [(0x40, 0xF0)] [0x94, 0x40]
    (fun t => t.a == 0x0 && t.pc == 0x8002 && t.ccr == 0xD4) = true := by
  decide

/-- A.30 (R139). -/
theorem test_andb : runs { start with b := 0x80, x := 0x10 } [(0x11, 0xFF)] [0xE4, 0x01]
    (fun t => t.b == 0x80 && t.x == 0x10 && t.pc == 0x8002 && t.ccr == 0xD8) = true := by
  decide

/-- A.33 (R140). -/
theorem test_asl : runs { start with y := 0x100 } [(0x100, 0xC0)] [0x18, 0x68, 0x00]
    (fun t => t.y == 0x100 && t.pc == 0x8003 && t.ccr == 0xD9 && t.stored 0x100 == 0x80) = true := by
  decide

/-- A.34 (R141). -/
theorem test_asla : runs { start with a := 0x55, ccr := 0xD1 } [] [0x48]
    (fun t => t.a == 0xAA && t.pc == 0x8001 && t.ccr == 0xDA) = true := by
  decide

/-- A.36 (R142). -/
theorem test_aslb : runs { start with b := 0x80 } [] [0x58]
    (fun t => t.b == 0x0 && t.pc == 0x8001 && t.ccr == 0xD7) = true := by
  decide

/-- A.38 (R143). -/
theorem test_asld : runs { start with a := 0x80, b := 0x0 } [] [0x05]
    (fun t => t.a == 0x0 && t.b == 0x0 && t.pc == 0x8001 && t.ccr == 0xD7) = true := by
  decide

/-- A.41 (R144). -/
theorem test_asr : runs { start with x := 0x100 } [(0x100, 0x1)] [0x67, 0x00]
    (fun t => t.x == 0x100 && t.pc == 0x8002 && t.ccr == 0xD7 && t.stored 0x100 == 0x0) = true := by
  decide

/-- A.42 (R145). -/
theorem test_asra : runs { start with a := 0x80 } [] [0x47]
    (fun t => t.a == 0xC0 && t.pc == 0x8001 && t.ccr == 0xDA) = true := by
  decide

/-- A.44 (R146). -/
theorem test_asrb : runs { start with b := 0x7E, ccr := 0xD1 } [] [0x57]
    (fun t => t.b == 0x3F && t.pc == 0x8001 && t.ccr == 0xD0) = true := by
  decide

/-- B.01 (R161). -/
theorem test_bcc : runs start [] [0x24, 0x10]
    (fun t => t.pc == 0x8012 && t.ccr == 0xD0) = true := by
  decide

/-- B.03 (R162). -/
theorem test_bcs : runs { start with ccr := 0xD1 } [] [0x25, 0xFE]
    (fun t => t.pc == 0x8000 && t.ccr == 0xD1) = true := by
  decide

/-- B.04 (R163). -/
theorem test_beq : runs { start with ccr := 0xD4 } [] [0x27, 0x80]
    (fun t => t.pc == 0x7F82 && t.ccr == 0xD4) = true := by
  decide

/-- B.06 (R164). -/
theorem test_bge : runs { start with ccr := 0xDA } [] [0x2C, 0x7F]
    (fun t => t.pc == 0x8081 && t.ccr == 0xDA) = true := by
  decide

/-- B.08 (R165). -/
theorem test_bgt : runs start [] [0x2E, 0x05]
    (fun t => t.pc == 0x8007 && t.ccr == 0xD0) = true := by
  decide

/-- B.12 (R166). -/
theorem test_bhi : runs { start with ccr := 0xD4 } [] [0x22, 0x05]
    (fun t => t.pc == 0x8002 && t.ccr == 0xD4) = true := by
  decide

/-- B.14 (R167). -/
theorem test_ble : runs { start with ccr := 0xD2 } [] [0x2F, 0x05]
    (fun t => t.pc == 0x8007 && t.ccr == 0xD2) = true := by
  decide

/-- B.16 (R168). -/
theorem test_bls : runs { start with ccr := 0xD1 } [] [0x23, 0x05]
    (fun t => t.pc == 0x8007 && t.ccr == 0xD1) = true := by
  decide

/-- B.18 (R169). -/
theorem test_blt : runs { start with ccr := 0xD8 } [] [0x2D, 0x05]
    (fun t => t.pc == 0x8007 && t.ccr == 0xD8) = true := by
  decide

/-- B.20 (R170). -/
theorem test_bmi : runs { start with ccr := 0xD8 } [] [0x2B, 0x05]
    (fun t => t.pc == 0x8007 && t.ccr == 0xD8) = true := by
  decide

/-- B.21 (R171). -/
theorem test_bne : runs start [] [0x26, 0xF0]
    (fun t => t.pc == 0x7FF2 && t.ccr == 0xD0) = true := by
  decide

/-- B.22 (R172). -/
theorem test_bpl : runs start [] [0x2A, 0x05]
    (fun t => t.pc == 0x8007 && t.ccr == 0xD0) = true := by
  decide

/-- B.26 (R173). -/
theorem test_bra : runs { start with pc := 0x10 } [] [0x20, 0x80]
    (fun t => t.pc == 0xFF92 && t.ccr == 0xD0) = true := by
  decide

/-- B.27 (R175). -/
theorem test_brn : runs start [] [0x21, 0xFE]
    (fun t => t.pc == 0x8002 && t.ccr == 0xD0) = true := by
  decide

/-- B.28 (R176). -/
theorem test_bsr : runs start [] [0x8D, 0x10]
    (fun t => t.sp == 0x1FD && t.pc == 0x8012 && t.ccr == 0xD0 && t.stored 0x1FF == 0x2 &&
      t.stored 0x1FE == 0x80) = true := by
  decide

/-- B.30 (R177). -/
theorem test_bvc : runs start [] [0x28, 0x05]
    (fun t => t.pc == 0x8007 && t.ccr == 0xD0) = true := by
  decide

/-- B.31 (R178). -/
theorem test_bvs : runs { start with ccr := 0xD2 } [] [0x29, 0x05]
    (fun t => t.pc == 0x8007 && t.ccr == 0xD2) = true := by
  decide

/-- M.01 (R190). -/
theorem test_bclr : runs { start with ccr := 0xD3 } [(0x40, 0xFF)] [0x15, 0x40, 0x0F]
    (fun t => t.pc == 0x8003 && t.ccr == 0xD9 && t.stored 0x40 == 0xF0) = true := by
  decide

/-- M.04 (R191). -/
theorem test_bset : runs { start with ccr := 0xD3 } [(0x40, 0x1)] [0x14, 0x40, 0x80]
    (fun t => t.pc == 0x8003 && t.ccr == 0xD9 && t.stored 0x40 == 0x81) = true := by
  decide

/-- M.11 (R192). -/
theorem test_brclr : runs { start with y := 0x1000 } [(0x1023, 0x0)] [0x18, 0x1F, 0x23, 0x80, 0xFB]
    (fun t => t.y == 0x1000 && t.pc == 0x8000 && t.ccr == 0xD0) = true := by
  decide

/-- M.16 (R193). -/
theorem test_brset : runs { start with y := 0x2000 } [(0x2000, 0x1)] [0x18, 0x1E, 0x00, 0x01, 0x7F]
    (fun t => t.y == 0x2000 && t.pc == 0x8084 && t.ccr == 0xD0) = true := by
  decide

/-- M.18 (R194). -/
theorem test_bita : runs { start with a := 0xF, ccr := 0xD3 } [(0x40, 0xF0)] [0x95, 0x40]
    (fun t => t.a == 0xF && t.pc == 0x8002 && t.ccr == 0xD5) = true := by
  decide

/-- M.19 (R195). -/
theorem test_bitb : runs { start with b := 0x40, ccr := 0xDA } [(0x1023, 0x40)] [0xF5, 0x10, 0x23]
    (fun t => t.b == 0x40 && t.pc == 0x8003 && t.ccr == 0xD0) = true := by
  decide

/-- C.01 (R210). -/
theorem test_cba : runs { start with a := 0x42, b := 0x42, ccr := 0xD3 } [] [0x11]
    (fun t => t.a == 0x42 && t.b == 0x42 && t.pc == 0x8001 && t.ccr == 0xD4) = true := by
  decide

/-- C.04 (R211). -/
theorem test_clc : runs { start with ccr := 0xFF } [] [0x0C]
    (fun t => t.pc == 0x8001 && t.ccr == 0xFE) = true := by
  decide

/-- C.05 (R212). -/
theorem test_cli : runs start [] [0x0E]
    (fun t => t.pc == 0x8001 && t.ccr == 0xC0) = true := by
  decide

/-- C.06 (R213). -/
theorem test_clr : runs { start with ccr := 0xDB } [(0x100, 0xAA)] [0x7F, 0x01, 0x00]
    (fun t => t.pc == 0x8003 && t.ccr == 0xD4 && t.stored 0x100 == 0x0) = true := by
  decide

/-- C.09 (R214). -/
theorem test_clra : runs { start with a := 0x55, ccr := 0xDB } [] [0x4F]
    (fun t => t.a == 0x0 && t.pc == 0x8001 && t.ccr == 0xD4) = true := by
  decide

/-- C.10 (R215). -/
theorem test_clrb : runs { start with b := 0x55, ccr := 0xFB } [] [0x5F]
    (fun t => t.b == 0x0 && t.pc == 0x8001 && t.ccr == 0xF4) = true := by
  decide

/-- C.11 (R216). -/
theorem test_clv : runs { start with ccr := 0xDF } [] [0x0A]
    (fun t => t.pc == 0x8001 && t.ccr == 0xDD) = true := by
  decide

/-- C.12 (R217). -/
theorem test_cmpa : runs { start with a := 0xEF } [] [0x81, 0xF0]
    (fun t => t.a == 0xEF && t.pc == 0x8002 && t.ccr == 0xD9) = true := by
  decide

/-- C.17 (R218). -/
theorem test_cmpb : runs { start with b := 0x7F, y := 0x100 } [(0x102, 0xFF)] [0x18, 0xE1, 0x02]
    (fun t => t.b == 0x7F && t.y == 0x100 && t.pc == 0x8003 && t.ccr == 0xDB) = true := by
  decide

/-- C.18 (R219). -/
theorem test_com : runs { start with ccr := 0xD2 } [(0x100, 0x55)] [0x73, 0x01, 0x00]
    (fun t => t.pc == 0x8003 && t.ccr == 0xD9 && t.stored 0x100 == 0xAA) = true := by
  decide

/-- C.20 (R220). -/
theorem test_coma : runs { start with a := 0x0, ccr := 0xD2 } [] [0x43]
    (fun t => t.a == 0xFF && t.pc == 0x8001 && t.ccr == 0xD9) = true := by
  decide

/-- C.21 (R221). -/
theorem test_comb : runs { start with b := 0xFF } [] [0x53]
    (fun t => t.b == 0x0 && t.pc == 0x8001 && t.ccr == 0xD5) = true := by
  decide

/-- C.27 (R222). -/
theorem test_cpd : runs { start with a := 0x12, b := 0x34, y := 0x100 } [(0x102, 0x12),
      (0x103, 0x34)] [0xCD, 0xA3, 0x02]
    (fun t => t.a == 0x12 && t.b == 0x34 && t.y == 0x100 && t.pc == 0x8003 && t.ccr == 0xD4) = true := by
  decide

/-- C.29 (R223). -/
theorem test_cpx : runs { start with x := 0x8000, y := 0x300 } [(0x300, 0x7F), (0x301, 0xFF)] [0xCD, 0xAC, 0x00]
    (fun t => t.x == 0x8000 && t.y == 0x300 && t.pc == 0x8003 && t.ccr == 0xD2) = true := by
  decide

/-- C.33 (R224). -/
theorem test_cpy : runs { start with y := 0x100 } [(0x104, 0x1), (0x105, 0x0)] [0x18, 0xAC, 0x04]
    (fun t => t.y == 0x100 && t.pc == 0x8003 && t.ccr == 0xD4) = true := by
  decide

/-- D.04 (R250). -/
theorem test_daa : runs { start with a := 0x23, ccr := 0xD1 } [] [0x19]
    (fun t => t.a == 0x83 && t.pc == 0x8001) = true := by
  decide

/-- D.10 (R251). -/
theorem test_dec : runs { start with y := 0x100 } [(0x100, 0x0)] [0x18, 0x6A, 0x00]
    (fun t => t.y == 0x100 && t.pc == 0x8003 && t.ccr == 0xD8 && t.stored 0x100 == 0xFF) = true := by
  decide

/-- D.12 (R252). -/
theorem test_deca : runs { start with a := 0x0, ccr := 0xD1 } [] [0x4A]
    (fun t => t.a == 0xFF && t.pc == 0x8001 && t.ccr == 0xD9) = true := by
  decide

/-- D.13 (R253). -/
theorem test_decb : runs { start with b := 0x1 } [] [0x5A]
    (fun t => t.b == 0x0 && t.pc == 0x8001 && t.ccr == 0xD4) = true := by
  decide

/-- D.14 (R254). -/
theorem test_des : runs { start with sp := 0x0 } [] [0x34]
    (fun t => t.sp == 0xFFFF && t.pc == 0x8001 && t.ccr == 0xD0) = true := by
  decide

/-- D.16 (R255). -/
theorem test_dex : runs { start with x := 0x0, ccr := 0xD4 } [] [0x09]
    (fun t => t.x == 0xFFFF && t.pc == 0x8001 && t.ccr == 0xD0) = true := by
  decide

/-- D.18 (R256). -/
theorem test_dey : runs { start with y := 0x8000, ccr := 0xD4 } [] [0x18, 0x09]
    (fun t => t.y == 0x7FFF && t.pc == 0x8002 && t.ccr == 0xD0) = true := by
  decide

/-- D.20 (R257). -/
theorem test_eora : runs { start with a := 0x5A, ccr := 0xD2 } [(0x40, 0x5A)] [0x98, 0x40]
    (fun t => t.a == 0x0 && t.pc == 0x8002 && t.ccr == 0xD4) = true := by
  decide

/-- D.22 (R258). -/
theorem test_eorb : runs { start with b := 0x80, x := 0x10, ccr := 0xD1 } [(0x11, 0x80)] [0xE8, 0x01]
    (fun t => t.b == 0x0 && t.x == 0x10 && t.pc == 0x8002 && t.ccr == 0xD5) = true := by
  decide

/-- D.24 (R264). -/
theorem test_fdiv : runs { start with a := 0x0, b := 0x1, x := 0x3 } [] [0x03]
    (fun t => t.a == 0x0 && t.b == 0x1 && t.x == 0x5555 && t.pc == 0x8001 && t.ccr == 0xD0) = true := by
  decide

/-- D.29 (R262). -/
theorem test_idiv : runs { start with a := 0x0, b := 0x64, x := 0x7, ccr := 0xDF } [] [0x02]
    (fun t => t.a == 0x0 && t.b == 0x2 && t.x == 0xE && t.pc == 0x8001 && t.ccr == 0xD8) = true := by
  decide

/-- D.33 (R265). -/
theorem test_inc : runs { start with ccr := 0xD1 } [(0x100, 0x7F)] [0x7C, 0x01, 0x00]
    (fun t => t.pc == 0x8003 && t.ccr == 0xDB && t.stored 0x100 == 0x80) = true := by
  decide

/-- D.36 (R266). -/
theorem test_inca : runs { start with a := 0x7F } [] [0x4C]
    (fun t => t.a == 0x80 && t.pc == 0x8001 && t.ccr == 0xDA) = true := by
  decide

/-- D.38 (R267). -/
theorem test_incb : runs { start with b := 0xF } [] [0x5C]
    (fun t => t.b == 0x10 && t.pc == 0x8001 && t.ccr == 0xD0) = true := by
  decide

/-- D.39 (R268). -/
theorem test_ins : runs { start with sp := 0xFFFF } [] [0x31]
    (fun t => t.sp == 0x0 && t.pc == 0x8001 && t.ccr == 0xD0) = true := by
  decide

/-- D.41 (R269). -/
theorem test_inx : runs { start with x := 0x7FFF, ccr := 0xD4 } [] [0x08]
    (fun t => t.x == 0x8000 && t.pc == 0x8001 && t.ccr == 0xD0) = true := by
  decide

/-- D.42 (R270). -/
theorem test_iny : runs { start with y := 0xFFFF } [] [0x18, 0x08]
    (fun t => t.y == 0x0 && t.pc == 0x8002 && t.ccr == 0xD4) = true := by
  decide

/-- L.03 (R290). -/
theorem test_jmp : runs { start with y := 0xFF80 } [] [0x18, 0x6E, 0xFF]
    (fun t => t.y == 0xFF80 && t.pc == 0x7F && t.ccr == 0xD0) = true := by
  decide

/-- L.07 (R291). -/
theorem test_jsr : runs { start with y := 0xA000, sp := 0x1 } [] [0x18, 0xAD, 0x00]
    (fun t => t.y == 0xA000 && t.sp == 0xFFFF && t.pc == 0xA000 && t.ccr == 0xD0 && t.stored 0x1 == 0x3 &&
      t.stored 0x0 == 0x80) = true := by
  decide

/-- L.09 (R292). -/
theorem test_ldaa : runs { start with ccr := 0xDF } [] [0x86, 0x01]
    (fun t => t.a == 0x1 && t.pc == 0x8002 && t.ccr == 0xD1) = true := by
  decide

/-- L.14 (R293). -/
theorem test_ldab : runs { start with y := 0x100 } [(0x101, 0xFF)] [0x18, 0xE6, 0x01]
    (fun t => t.b == 0xFF && t.y == 0x100 && t.pc == 0x8003 && t.ccr == 0xD8) = true := by
  decide

/-- L.15 (R294). -/
theorem test_ldd : runs { start with ccr := 0xD3 } [(0xA2, 0x17), (0xA3, 0x70)] [0xFC, 0x00, 0xA2]
    (fun t => t.a == 0x17 && t.b == 0x70 && t.pc == 0x8003 && t.ccr == 0xD1) = true := by
  decide

/-- L.19 (R295). -/
theorem test_lds : runs { start with sp := 0x1234 } [(0x10, 0x0), (0x11, 0x0)] [0x9E, 0x10]
    (fun t => t.sp == 0x0 && t.pc == 0x8002 && t.ccr == 0xD4) = true := by
  decide

/-- L.22 (R296). -/
theorem test_ldx : runs { start with y := 0x200 } [(0x202, 0x0), (0x203, 0x1)] [0xCD, 0xEE, 0x02]
    (fun t => t.x == 0x1 && t.y == 0x200 && t.pc == 0x8003 && t.ccr == 0xD0) = true := by
  decide

/-- L.25 (R297). -/
theorem test_ldy : runs { start with y := 0x300 } [(0x300, 0x3), (0x301, 0x2)] [0x18, 0xEE, 0x00]
    (fun t => t.y == 0x302 && t.pc == 0x8003 && t.ccr == 0xD0) = true := by
  decide

/-- L.27 (R299). -/
theorem test_lsr : runs { start with ccr := 0xD8 } [(0x100, 0x1)] [0x74, 0x01, 0x00]
    (fun t => t.pc == 0x8003 && t.ccr == 0xD7 && t.stored 0x100 == 0x0) = true := by
  decide

/-- L.30 (R300). -/
theorem test_lsra : runs { start with a := 0x1 } [] [0x44]
    (fun t => t.a == 0x0 && t.pc == 0x8001 && t.ccr == 0xD7) = true := by
  decide

/-- L.31 (R301). -/
theorem test_lsrb : runs { start with b := 0x2, ccr := 0xDB } [] [0x54]
    (fun t => t.b == 0x1 && t.pc == 0x8001 && t.ccr == 0xD0) = true := by
  decide

/-- L.33 (R302). -/
theorem test_lsrd : runs { start with a := 0x0, b := 0x1 } [] [0x04]
    (fun t => t.a == 0x0 && t.b == 0x0 && t.pc == 0x8001 && t.ccr == 0xD7) = true := by
  decide

/-- N.03 (R330). -/
theorem test_mul : runs { start with a := 0x0, b := 0x7F, ccr := 0xDB } [] [0x3D]
    (fun t => t.a == 0x0 && t.b == 0x0 && t.pc == 0x8001 && t.ccr == 0xDA) = true := by
  decide

/-- N.07 (R331). -/
theorem test_neg : runs { start with y := 0x100, ccr := 0xDB } [(0x100, 0x0)] [0x18, 0x60, 0x00]
    (fun t => t.y == 0x100 && t.pc == 0x8003 && t.ccr == 0xD4 && t.stored 0x100 == 0x0) = true := by
  decide

/-- N.09 (R332). -/
theorem test_nega : runs { start with a := 0x80 } [] [0x40]
    (fun t => t.a == 0x80 && t.pc == 0x8001 && t.ccr == 0xDB) = true := by
  decide

/-- N.11 (R333). -/
theorem test_negb : runs { start with b := 0x7F } [] [0x50]
    (fun t => t.b == 0x81 && t.pc == 0x8001 && t.ccr == 0xD9) = true := by
  decide

/-- N.12 (R338). -/
theorem test_nop : runs { start with ccr := 0xFF } [] [0x01]
    (fun t => t.pc == 0x8001 && t.ccr == 0xFF) = true := by
  decide

/-- N.13 (R339). -/
theorem test_oraa : runs { start with a := 0x8, ccr := 0xD3 } [] [0x8A, 0x10]
    (fun t => t.a == 0x18 && t.pc == 0x8002 && t.ccr == 0xD1) = true := by
  decide

/-- N.16 (R340). -/
theorem test_orab : runs { start with b := 0x0, y := 0x100 } [(0x100, 0x7F)] [0x18, 0xEA, 0x00]
    (fun t => t.b == 0x7F && t.y == 0x100 && t.pc == 0x8003 && t.ccr == 0xD0) = true := by
  decide

/-- N.17 (R341). -/
theorem test_psha : runs { start with a := 0xAA } [] [0x36]
    (fun t => t.a == 0xAA && t.sp == 0x1FE && t.pc == 0x8001 && t.ccr == 0xD0 && t.stored 0x1FF == 0xAA) = true := by
  decide

/-- N.18 (R342). -/
theorem test_pshb : runs { start with b := 0xBB, sp := 0x0 } [] [0x37]
    (fun t => t.b == 0xBB && t.sp == 0xFFFF && t.pc == 0x8001 && t.ccr == 0xD0 && t.stored 0x0 == 0xBB) = true := by
  decide

/-- N.19 (R343). -/
theorem test_pshx : runs { start with x := 0x1234 } [] [0x3C]
    (fun t => t.x == 0x1234 && t.sp == 0x1FD && t.pc == 0x8001 && t.ccr == 0xD0 && t.stored 0x1FF == 0x34 &&
      t.stored 0x1FE == 0x12) = true := by
  decide

/-- N.20 (R344). -/
theorem test_pshy : runs { start with y := 0xABCD, sp := 0x1 } [] [0x18, 0x3C]
    (fun t => t.y == 0xABCD && t.sp == 0xFFFF && t.pc == 0x8002 && t.ccr == 0xD0 && t.stored 0x1 == 0xCD &&
      t.stored 0x0 == 0xAB) = true := by
  decide

/-- N.21 (R345). -/
theorem test_pula : runs { start with sp := 0x1FD, ccr := 0xDF } [(0x1FE, 0x5A)] [0x32]
    (fun t => t.a == 0x5A && t.sp == 0x1FE && t.pc == 0x8001 && t.ccr == 0xDF) = true := by
  decide

/-- N.22 (R346). -/
theorem test_pulb : runs { start with sp := 0xFFFF } [(0x0, 0x80)] [0x33]
    (fun t => t.b == 0x80 && t.sp == 0x0 && t.pc == 0x8001 && t.ccr == 0xD0) = true := by
  decide

/-- N.23 (R347). -/
theorem test_pulx : runs { start with sp := 0x1FD } [(0x1FE, 0x12), (0x1FF, 0x34)] [0x38]
    (fun t => t.x == 0x1234 && t.sp == 0x1FF && t.pc == 0x8001 && t.ccr == 0xD0) = true := by
  decide

/-- N.24 (R348). -/
theorem test_puly : runs { start with sp := 0xFFFE } [(0xFFFF, 0xAB), (0x0, 0xCD)] [0x18, 0x38]
    (fun t => t.y == 0xABCD && t.sp == 0x0 && t.pc == 0x8002 && t.ccr == 0xD0) = true := by
  decide

/-- R.02 (R360). -/
theorem test_rol : runs { start with x := 0x100 } [(0x100, 0x40)] [0x69, 0x00]
    (fun t => t.x == 0x100 && t.pc == 0x8002 && t.ccr == 0xDA && t.stored 0x100 == 0x80) = true := by
  decide

/-- R.03 (R361). -/
theorem test_rola : runs { start with a := 0x80 } [] [0x49]
    (fun t => t.a == 0x0 && t.pc == 0x8001 && t.ccr == 0xD7) = true := by
  decide

/-- R.05 (R362). -/
theorem test_rolb : runs { start with b := 0x55, ccr := 0xD1 } [] [0x59]
    (fun t => t.b == 0xAB && t.pc == 0x8001 && t.ccr == 0xDA) = true := by
  decide

/-- R.07 (R363). -/
theorem test_ror : runs { start with y := 0x100 } [(0x100, 0x2)] [0x18, 0x66, 0x00]
    (fun t => t.y == 0x100 && t.pc == 0x8003 && t.ccr == 0xD0 && t.stored 0x100 == 0x1) = true := by
  decide

/-- R.08 (R364). -/
theorem test_rora : runs { start with a := 0x0, ccr := 0xD1 } [] [0x46]
    (fun t => t.a == 0x80 && t.pc == 0x8001 && t.ccr == 0xDA) = true := by
  decide

/-- R.10 (R365). -/
theorem test_rorb : runs { start with b := 0xAA, ccr := 0xD1 } [] [0x56]
    (fun t => t.b == 0xD5 && t.pc == 0x8001 && t.ccr == 0xDA) = true := by
  decide

/-- R.14 (R366). -/
theorem test_rti : runs { start with sp := 0x1F6, ccr := 0x90 } [(0x1F7, 0xFF), (0x1F8, 0x22), (0x1F9, 0x11),
      (0x1FA, 0x12), (0x1FB, 0x34), (0x1FC, 0x56), (0x1FD, 0x78), (0x1FE, 0x80), (0x1FF, 0x1)] [0x3B]
    (fun t => t.a == 0x11 && t.b == 0x22 && t.x == 0x1234 && t.y == 0x5678 && t.sp == 0x1FF && t.pc == 0x8001 &&
      t.ccr == 0xBF) = true := by
  decide

/-- R.11 (R367). -/
theorem test_rts : runs { start with sp := 0x1FD } [(0x1FE, 0x80), (0x1FF, 0x3)] [0x39]
    (fun t => t.sp == 0x1FF && t.pc == 0x8003 && t.ccr == 0xD0) = true := by
  decide

/-- R.17 (R370). -/
theorem test_sba : runs { start with a := 0x42, b := 0x42, ccr := 0xDB } [] [0x10]
    (fun t => t.a == 0x0 && t.b == 0x42 && t.pc == 0x8001 && t.ccr == 0xD4) = true := by
  decide

/-- R.20 (R371). -/
theorem test_sbca : runs { start with a := 0x80, ccr := 0xD1 } [(0x40, 0x0)] [0x92, 0x40]
    (fun t => t.a == 0x7F && t.pc == 0x8002 && t.ccr == 0xD2) = true := by
  decide

/-- R.21 (R372). -/
theorem test_sbcb : runs { start with b := 0x5 } [(0x2000, 0x5)] [0xF2, 0x20, 0x00]
    (fun t => t.b == 0x0 && t.pc == 0x8003 && t.ccr == 0xD4) = true := by
  decide

/-- R.23 (R373). -/
theorem test_sec : runs start [] [0x0D]
    (fun t => t.pc == 0x8001 && t.ccr == 0xD1) = true := by
  decide

/-- R.24 (R374). -/
theorem test_sei : runs { start with ccr := 0xC0 } [] [0x0F]
    (fun t => t.pc == 0x8001 && t.ccr == 0xD0) = true := by
  decide

/-- R.25 (R375). -/
theorem test_sev : runs start [] [0x0B]
    (fun t => t.pc == 0x8001 && t.ccr == 0xD2) = true := by
  decide

/-- R.26 (R376). -/
theorem test_staa : runs { start with a := 0x1, ccr := 0xDB } [] [0xB7, 0x10, 0x23]
    (fun t => t.a == 0x1 && t.pc == 0x8003 && t.ccr == 0xD1 && t.stored 0x1023 == 0x1) = true := by
  decide

/-- R.29 (R377). -/
theorem test_stab : runs { start with b := 0x7F, y := 0x200 } [] [0x18, 0xE7, 0x05]
    (fun t => t.b == 0x7F && t.y == 0x200 && t.pc == 0x8003 && t.ccr == 0xD0 && t.stored 0x205 == 0x7F) = true := by
  decide

/-- R.31 (R378). -/
theorem test_std : runs { start with a := 0x12, b := 0x34, ccr := 0xD2 } [] [0xFD, 0x01, 0x7B]
    (fun t => t.a == 0x12 && t.b == 0x34 && t.pc == 0x8003 && t.ccr == 0xD0 && t.stored 0x17B == 0x12 &&
      t.stored 0x17C == 0x34) = true := by
  decide

/-- R.51 (R384). -/
theorem test_stop : runs { start with ccr := 0x50 } [] [0xCF]
    (fun t => t.pc == 0x8001 && t.ccr == 0x50 && t.run == .stopped) = true := by
  decide

/-- R.35 (R385). -/
theorem test_sts : runs { start with sp := 0x8000 } [] [0xBF, 0x20, 0x00]
    (fun t => t.sp == 0x8000 && t.pc == 0x8003 && t.ccr == 0xD8 && t.stored 0x2000 == 0x80 &&
      t.stored 0x2001 == 0x0) = true := by
  decide

/-- R.37 (R386). -/
theorem test_stx : runs { start with x := 0x0, y := 0x100 } [] [0xCD, 0xEF, 0x02]
    (fun t => t.x == 0x0 && t.y == 0x100 && t.pc == 0x8003 && t.ccr == 0xD4 && t.stored 0x102 == 0x0 &&
      t.stored 0x103 == 0x0) = true := by
  decide

/-- R.40 (R387). -/
theorem test_sty : runs { start with x := 0x400, y := 0x8001 } [] [0x1A, 0xEF, 0x00]
    (fun t => t.x == 0x400 && t.y == 0x8001 && t.pc == 0x8003 && t.ccr == 0xD8 && t.stored 0x400 == 0x80 &&
      t.stored 0x401 == 0x1) = true := by
  decide

/-- R.42 (R388). -/
theorem test_suba : runs { start with a := 0x0 } [] [0x80, 0x01]
    (fun t => t.a == 0xFF && t.pc == 0x8002 && t.ccr == 0xD9) = true := by
  decide

/-- R.45 (R389). -/
theorem test_subb : runs { start with b := 0x50 } [(0x2000, 0xF0)] [0xF0, 0x20, 0x00]
    (fun t => t.b == 0x60 && t.pc == 0x8003 && t.ccr == 0xD1) = true := by
  decide

/-- R.48 (R390). -/
theorem test_subd : runs { start with a := 0x17, b := 0x70 } [(0xA2, 0x17), (0xA3, 0x70)] [0x93, 0xA2]
    (fun t => t.a == 0x0 && t.b == 0x0 && t.pc == 0x8002 && t.ccr == 0xD4) = true := by
  decide

/-- R.49 (R391). -/
theorem test_swi : runs { start with a := 0x11, b := 0x22, x := 0x1234, y := 0x5678, ccr := 0xC5 }
      [(0xFFF6, 0x90), (0xFFF7, 0x0)] [0x3F]
    (fun t => t.a == 0x11 && t.b == 0x22 && t.x == 0x1234 && t.y == 0x5678 && t.sp == 0x1F6 && t.pc == 0x9000 &&
      t.ccr == 0xD5 && t.stored 0x1FF == 0x1 && t.stored 0x1FE == 0x80 && t.stored 0x1FD == 0x78 &&
      t.stored 0x1FC == 0x56 && t.stored 0x1FB == 0x34 && t.stored 0x1FA == 0x12 && t.stored 0x1F9 == 0x11 &&
      t.stored 0x1F8 == 0x22 && t.stored 0x1F7 == 0xC5) = true := by
  decide

/-- T.01 (R410). -/
theorem test_tab : runs { start with a := 0x80, b := 0x0, ccr := 0xD3 } [] [0x16]
    (fun t => t.a == 0x80 && t.b == 0x80 && t.pc == 0x8001 && t.ccr == 0xD9) = true := by
  decide

/-- T.04 (R411). -/
theorem test_tap : runs { start with a := 0xFF, ccr := 0x80 } [] [0x06]
    (fun t => t.a == 0xFF && t.pc == 0x8001 && t.ccr == 0xBF) = true := by
  decide

/-- T.06 (R412). -/
theorem test_tba : runs { start with a := 0x0, b := 0x7F, ccr := 0xDA } [] [0x17]
    (fun t => t.a == 0x7F && t.b == 0x7F && t.pc == 0x8001 && t.ccr == 0xD0) = true := by
  decide

/-- T.19 (R420). -/
theorem test_test : runs start [(0xFFF8, 0xA0), (0xFFF9, 0x0)] [0x00]
    (fun t => t.sp == 0x1F6 && t.pc == 0xA000 && t.ccr == 0xD0 && t.stored 0x1FF == 0x0 &&
      t.stored 0x1FE == 0x80 && t.stored 0x1FD == 0x0 && t.stored 0x1FC == 0x0 && t.stored 0x1FB == 0x0 &&
      t.stored 0x1FA == 0x0 && t.stored 0x1F9 == 0x0 && t.stored 0x1F8 == 0x0 && t.stored 0x1F7 == 0xD0) = true := by
  decide

/-- T.07 (R413). -/
theorem test_tpa : runs { start with a := 0x0, ccr := 0xD5 } [] [0x07]
    (fun t => t.a == 0xD5 && t.pc == 0x8001 && t.ccr == 0xD5) = true := by
  decide

/-- T.10 (R414). -/
theorem test_tst : runs { start with y := 0x100, ccr := 0xDF } [(0x101, 0x1)] [0x18, 0x6D, 0x01]
    (fun t => t.y == 0x100 && t.pc == 0x8003 && t.ccr == 0xD0) = true := by
  decide

/-- T.11 (R415). -/
theorem test_tsta : runs { start with a := 0xFF, ccr := 0xD3 } [] [0x4D]
    (fun t => t.a == 0xFF && t.pc == 0x8001 && t.ccr == 0xD8) = true := by
  decide

/-- T.12 (R416). -/
theorem test_tstb : runs { start with b := 0x0, ccr := 0xDB } [] [0x5D]
    (fun t => t.b == 0x0 && t.pc == 0x8001 && t.ccr == 0xD4) = true := by
  decide

/-- T.14 (R417). -/
theorem test_tsx : runs { start with x := 0x1234, sp := 0xFFFF, ccr := 0xDF } [] [0x30]
    (fun t => t.x == 0x0 && t.sp == 0xFFFF && t.pc == 0x8001 && t.ccr == 0xDF) = true := by
  decide

/-- T.15 (R418). -/
theorem test_tsy : runs { start with sp := 0xFF } [] [0x18, 0x30]
    (fun t => t.y == 0x100 && t.sp == 0xFF && t.pc == 0x8002 && t.ccr == 0xD0) = true := by
  decide

/-- T.16 (R419). -/
theorem test_txs : runs { start with x := 0x200, sp := 0x0 } [] [0x35]
    (fun t => t.x == 0x200 && t.sp == 0x1FF && t.pc == 0x8001 && t.ccr == 0xD0) = true := by
  decide

/-- T.18 (R421). -/
theorem test_tys : runs { start with y := 0x100 } [] [0x18, 0x35]
    (fun t => t.y == 0x100 && t.sp == 0xFF && t.pc == 0x8002 && t.ccr == 0xD0) = true := by
  decide

/-- T.23 (R432). -/
theorem test_wai : runs { start with a := 0x11, b := 0x22, x := 0x1234, y := 0x5678, ccr := 0xC0 } [] [0x3E]
    (fun t => t.a == 0x11 && t.b == 0x22 && t.x == 0x1234 && t.y == 0x5678 && t.sp == 0x1F6 && t.pc == 0x8001 &&
      t.ccr == 0xC0 && t.stored 0x1FF == 0x1 && t.stored 0x1FE == 0x80 && t.stored 0x1FD == 0x78 &&
      t.stored 0x1FC == 0x56 && t.stored 0x1FB == 0x34 && t.stored 0x1FA == 0x12 && t.stored 0x1F9 == 0x11 &&
      t.stored 0x1F8 == 0x22 && t.stored 0x1F7 == 0xC0 && t.run == .waiting) = true := by
  decide

/-- T.21 (R433). -/
theorem test_xgdx : runs { start with a := 0x12, b := 0x34, x := 0xABCD, ccr := 0xDF } [] [0x8F]
    (fun t => t.a == 0xAB && t.b == 0xCD && t.x == 0x1234 && t.pc == 0x8001 && t.ccr == 0xDF) = true := by
  decide

/-- T.22 (R434). -/
theorem test_xgdy : runs { start with a := 0x0, b := 0x1, y := 0xFFFE } [] [0x18, 0x8F]
    (fun t => t.a == 0xFF && t.b == 0xFE && t.y == 0x1 && t.pc == 0x8002 && t.ccr == 0xD0) = true := by
  decide

/-- DAA of `$45 + $38 = $7D` (D.03): the flags the rule defines, V being free. -/
theorem test_daa_flags : daaResult 0x7D false false = 0x83 ∧ daaHigh 0x7D false = false ∧
    daaResult 0x9A false false = 0x00 ∧ daaHigh 0x9A false = true := by decide

/-! A second name has its first name's meaning (R109). -/

theorem test_second_names (ea : Ea) (rr : Byte) (s : State) :
    exec (.lsl ea) s = exec (.asl ea) s ∧ exec .lsla s = exec .asla s ∧ exec .lslb s = exec .aslb s ∧
    exec .lsld s = exec .asld s ∧ exec (.bhs rr) s = exec (.bcc rr) s ∧ exec (.blo rr) s = exec (.bcs rr) s := by
  refine ⟨rfl, rfl, rfl, rfl, rfl, rfl⟩

/-! ### The machine around an instruction -/

/-- `withFetchWord` makes the first step after reset run the instruction: `86 55`. -/
theorem test_fetch_word : after (step (State.reset.withFetchWord 16 0x5586)) (fun t => t.a == 0x55) = true := by
  decide

/-- The vectors the traces of 95_test_vectors.md section 5 use. -/
def vectors : List (Word × Byte) :=
  [(0xFFF2, 0x90), (0xFFF4, 0xA0), (0xFFF6, 0x90), (0xFFF8, 0xA0), (0xFFFE, 0xC0), (0xFFFF, 0x11)]

/-- E3: an illegal opcode after a prebyte, ILLOP_RETURN_PC = after_opcode. -/
theorem test_illegal_after_opcode :
    runs { start with a := 0x11, ccr := 0xC0, cfg := { allRam with illopReturnPc := .afterOpcode } } vectors
      [0x18, 0x01]
      (fun t => t.pc == 0xA000 && t.sp == 0x01F6 && t.ccr == 0xD0 && t.stored 0x01FF == 0x02 &&
        t.stored 0x01FE == 0x80 && t.stored 0x01F9 == 0x11 && t.stored 0x01F7 == 0xC0) = true := by
  decide

/-- E2: an illegal opcode, ILLOP_RETURN_PC = opcode_address. -/
theorem test_illegal_opcode_address :
    runs { start with ccr := 0xC0 } vectors [0x41]
      (fun t => t.pc == 0xA000 && t.stored 0x01FF == 0x00 && t.stored 0x01FE == 0x80) = true := by
  decide

/-- E4, step 3: the inhibit lets one instruction run although IRQ is pending and I = 0. -/
theorem test_inhibit :
    runs { start with ccr := 0xC0, irqInhibit := true, lines := [.irq] } vectors [0x4C]
      (fun t => t.a == 0x01 && t.pc == 0x8001 && t.irqInhibit == false) = true := by
  decide

/-- E4, step 4: the interrupt is then taken. -/
theorem test_interrupt :
    runs { start with ccr := 0xC0, lines := [.irq] } vectors [0x4C]
      (fun t => t.a == 0x00 && t.pc == 0x9000 && t.ccr == 0xD0 && t.sp == 0x01F6 && t.lines == [.irq]) = true := by
  decide

/-- E5, step 2: XIRQ ignores I and sets X. -/
theorem test_xirq :
    runs { start with ccr := 0x90, lines := [.xirq] } vectors [0x01]
      (fun t => t.pc == 0xA000 && t.ccr == 0xD0 && t.stored 0x01F7 == 0x90) = true := by
  decide

/-- E6: of IRQ, TOC1 and SCI the highest vector is taken. -/
theorem test_priority :
    select { start with ccr := 0xC0, lines := [.sci, .irq], io := { start.io with tflg1 := 0x80, tmsk1 := 0x80 } } =
      some (.maskable .irq) := by decide

/-- E7, step 3: a waiting machine stacks nothing more. -/
theorem test_wake_from_wait :
    runs { start with ccr := 0xC0, sp := 0x01F6, run := .waiting, lines := [.irq] } vectors []
      (fun t => t.pc == 0x9000 && t.sp == 0x01F6 && t.ccr == 0xD0 && t.run == .running) = true := by
  decide

/-- E8, step 3: a masked XIRQ ends a stop and is not taken. -/
theorem test_wake_from_stop :
    runs { start with ccr := 0x50, run := .stopped, lines := [.xirq] } vectors []
      (fun t => t.pc == 0x8000 && t.sp == 0x01FF && t.run == .running) = true := by
  decide

/-- E9, step 3: a reset ends the hang; only PC and the masks are definite. -/
theorem test_reset_from_hang :
    runs { start with ccr := 0x00, run := .hung, resets := [.reset] } vectors []
      (fun t => t.pc == 0xC011 && t.run == .running && t.resets == []) = true := by
  decide

/-- P7: TFLG1 is write-1-to-clear. -/
theorem test_tflg1_store :
    runs { start with a := 0x01, x := 0x1000, cfg := Params.default, io := { start.io with tflg1 := 0x83 } } []
      [0xA7, 0x23] (fun t => t.io.tflg1 == 0x82) = true := by
  decide

/-- R518: BSET on TFLG1 clears every flag that was set. -/
theorem test_tflg1_bset :
    runs { start with x := 0x1000, cfg := Params.default, io := { start.io with tflg1 := 0x83 } } []
      [0x1C, 0x23, 0x01] (fun t => t.io.tflg1 == 0x00) = true := by
  decide

/-- R470, R474: a match of OC3 toggles PA5 (TCTL1 = `$10`) and sets its flag. -/
theorem test_compare_match :
    (applyEvent (.timer (.count 0x1234))
      { start with io := { start.io with tctl1 := 0x10, toc1 := 1, toc2 := 1, toc3 := 0x1234 } }).io.tflg1 = 0x20 ∧
    (actCompare { start.io with tctl1 := 0x10 } .oc3).pins = 0x20 := by
  decide

/-- R470, R473: OC1 and others act at once; a level their rules agree on is the pin's, one they differ on a clash. -/
theorem test_agreeing_compares :
    (actAll 0xE0 { start with
      io := { start.io with tctl1 := 0xE0, oc1m := 0x60, oc1d := 0x40, pins := 0x20 } }).io.pins = 0x40 ∧
    clashPins 0xC0 { start.io with tctl1 := 0xC0, oc1m := 0x40, oc1d := 0x00 } = 0x40 := by
  rw [actAll_agree (by decide)]
  decide

/-- R71: a match that falls between the two bytes of `STD $1016` sees the new high byte with the old low byte. -/
theorem test_match_between_two_bytes :
    runs { start with
        a := 0x12, b := 0x34, cfg := Params.default, io := { start.io with toc1 := 0x00FF }
        busScript := [[], [.count 0x12FF]] } [] [0xFD, 0x10, 0x16]
      (fun t => t.io.tflg1 == 0x80 && t.io.toc1 == 0x1234 && t.busScript == []) = true := by
  decide

/-- R384: the timer of a stopped machine stands still. -/
theorem test_stopped_timer :
    runs { start with run := .stopped, script := [[.timer (.count 0)], []] } [] []
      (fun t => t.io == start.io && t.run == .stopped) = true := by
  decide

/-- R510 (b): a waiting machine whose held request is masked is over once nothing more is asserted. -/
theorem test_asleep_masked :
    runOver none none 0 { start with run := .waiting, ccr := 0xD0, lines := [.irq, .xirq] } .asleep := by
  exact ⟨⟨Or.inl rfl, rfl⟩, trivial⟩

/-- S3, P6: the checksum of the source's record, and a record of the program loaded and not loaded. -/
theorem test_load :
    (match loadS19 "S9030000FC".toList start with | .ok t => t == start | .error _ => false) = true ∧
    (match loadS19 "S105FFFE80007D".toList start with
      | .ok t => t.stored 0xFFFE == 0x80 && t.stored 0xFFFF == 0x00
      | .error _ => false) = true ∧
    (match loadS19 "S105FFFE80007E".toList start with | .ok _ => false | .error e => e == .badChecksum) = true ∧
    (match loadS19 "S205FFFE80007D".toList start with | .ok _ => false | .error e => e == .recordType '2') = true := by
  decide

/-- R509, U16: an S9 record with a wrong checksum or a field that is no digit refuses the file. -/
theorem test_load_refuses_bad_end :
    (match loadS19 "S9030000FF".toList start with | .ok _ => false | .error e => e == .badChecksum) = true ∧
    (match loadS19 "S9zz".toList start with | .ok _ => false | .error e => e == .badDigit) = true ∧
    (match loadS19 "S9040000FB".toList start with | .ok _ => false | .error e => e == .badLength) = true := by
  decide

/-! ### Witnesses: the hypotheses of each statement that has any are met together -/

/-- Every frame address is RAM. -/
theorem frame_is_ram {s : State} (h : IsRam s s.sp ∧ IsRam s (s.sp - 1) ∧ IsRam s (s.sp - 2) ∧ IsRam s (s.sp - 3) ∧
    IsRam s (s.sp - 4) ∧ IsRam s (s.sp - 5) ∧ IsRam s (s.sp - 6) ∧ IsRam s (s.sp - 7) ∧ IsRam s (s.sp - 8)) :
    ∀ a ∈ frameAt s, IsRam s a := by
  simp only [frameAt, List.mem_cons, List.not_mem_nil, or_false, forall_eq_or_imp, forall_eq]
  exact h

theorem ready {src : TrapSource} {s : State} (i : s.Inv)
    (h : IsRam s s.sp ∧ IsRam s (s.sp - 1) ∧ IsRam s (s.sp - 2) ∧ IsRam s (s.sp - 3) ∧ IsRam s (s.sp - 4) ∧
      IsRam s (s.sp - 5) ∧ IsRam s (s.sp - 6) ∧ IsRam s (s.sp - 7) ∧ IsRam s (s.sp - 8))
    (v : IsMem s (trapVector src) ∧ IsMem s (trapVector src + 1)) : EntryReady src s :=
  ⟨i, frame_is_ram h, v⟩

theorem witness_DecodeOfEncode : (Instr.brset (.indy 0xFF) 0xFF 0x80).WellFormed ∧ (Instr.bhs 0xFF).WellFormed := by
  decide

theorem witness_IllegalEncodings : prebytePage 0x41 = none ∧ prebytePage 0xC7 = none ∧ prebytePage 0x00 = none := by
  decide

/-- NOP at `$8000`. -/
def atNop : State := loaded start [] [0x01]

theorem witness_StepRunsDecoded :
    envTurn atNop = atNop ∧ topReset atNop = none ∧ atNop.run = .running ∧ select atNop = none ∧
    decode (fetchInstr (atNop.setIrqInhibit false)).1 = .ok (.nop, 1) := by
  refine ⟨rfl, rfl, rfl, rfl, rfl⟩

/-- The longest instruction, across the top of the address space. -/
def atTop : State := loaded { start with pc := 0xFFFE } [] [0x18, 0x1E, 0x00, 0x01, 0x7F]

theorem witness_StepRunsStoredInstruction :
    (Instr.brset (.indy 0x00) 0x01 0x7F).WellFormed ∧ AboutToRun atTop ∧
    CodeAt (encode (.brset (.indy 0x00) 0x01 0x7F)) atTop := by
  refine ⟨by decide, ⟨rfl, rfl, rfl, rfl⟩, ?_⟩
  unfold CodeAt
  decide

/-- The illegal opcode `$41` at `$8000`. -/
def atHole : State := loaded start vectors [0x41]

/-- The illegal pair `18 01` at `$8000`. -/
def atHole18 : State := loaded start vectors [0x18, 0x01]

theorem witness_IllegalBytesTrap :
    AboutToRun atHole ∧ CodeAt [0x41] atHole ∧ EntryReady .ill atHole ∧
      decode [0x41] = .error (.illegalOpcode .page0 0x41) ∧
      ([0x41] : List Byte).length = (if Page.page0 = .page0 then 1 else 2) := by
  refine ⟨⟨rfl, rfl, rfl, rfl⟩, by unfold CodeAt; decide, ready ⟨by decide, by decide⟩ (by decide) (by decide), rfl,
    by decide⟩

theorem witness_IllegalBytesTrap_prebyte :
    AboutToRun atHole18 ∧ CodeAt [0x18, 0x01] atHole18 ∧ EntryReady .ill atHole18 ∧
      decode [0x18, 0x01] = .error (.illegalOpcode .page18 0x01) ∧
      ([0x18, 0x01] : List Byte).length = (if Page.page18 = .page0 then 1 else 2) := by
  refine ⟨⟨rfl, rfl, rfl, rfl⟩, by unfold CodeAt; decide, ready ⟨by decide, by decide⟩ (by decide) (by decide), rfl,
    by decide⟩

theorem witness_StepKeepsInvariant : State.reset.Inv ∧ ∃ t, step State.reset = .next t := by
  exact ⟨⟨by decide, by decide⟩, _, rfl⟩

/-- IRQ pending and not masked. -/
def atIrq : State := { atNop with ccr := 0xC0, lines := [.irq] }

theorem witness_StepOrder :
    topReset { start with resets := [.cop, .cmf] } = some .cmf ∧
    (topReset { start with run := .hung } = none ∧ ({ start with run := .hung } : State).run = .hung) ∧
    (topReset { start with run := .waiting } = none ∧ ({ start with run := .waiting } : State).run = .waiting) ∧
    (topReset { start with run := .stopped } = none ∧ ({ start with run := .stopped } : State).run = .stopped) ∧
    (topReset atIrq = none ∧ atIrq.run = .running ∧ select atIrq = some (.maskable .irq)) ∧
    (topReset atNop = none ∧ atNop.run = .running ∧ select atNop = none) := by
  decide

theorem witness_SelectPriority :
    select { start with ccr := 0x90, lines := [.irq, .xirq] } = some .xirq ∧
    select { start with ccr := 0xC0, lines := [.irq, .xirq] } = some (.maskable .irq) ∧
    select { start with ccr := 0xC0, lines := [.irq, .sci], cfg := { allRam with promotedSource := some .sci } } =
      some (.maskable .sci) := by
  decide

theorem witness_InterruptEntry :
    envTurn atIrq = atIrq ∧ topReset atIrq = none ∧ atIrq.run = .running ∧ select atIrq = some (.maskable .irq) ∧
    EntryReady (.maskable .irq) atIrq := by
  refine ⟨rfl, rfl, rfl, rfl, ready ⟨by decide, by decide⟩ (by decide) (by decide)⟩

/-- A frame that wraps from `$0000` to `$FFFF`. -/
theorem witness_InterruptEntry_wrap : EntryReady .xirq { start with sp := 0x0000 } := by
  refine ready ⟨by decide, by decide⟩ (by decide) (by decide)

theorem witness_ResetEvent :
    envTurn { start with resets := [.cop] } = { start with resets := [.cop] } ∧
    ResetCause.reset ∉ ({ start with resets := [.cop] } : State).resets ∧
    ResetCause.cmf ∉ ({ start with resets := [.cop] } : State).resets ∧
    ResetCause.cop ∈ ({ start with resets := [.cop] } : State).resets ∧
    IsMem { start with resets := [.cop] } (resetVector .cop) ∧
    IsMem { start with resets := [.reset, .cop] } (resetVector .reset + 1) := by
  refine ⟨rfl, by decide, by decide, by decide, by decide, by decide⟩

theorem witness_WaitingMachine :
    envTurn { atIrq with run := .waiting } = { atIrq with run := .waiting } ∧
    topReset { atIrq with run := .waiting } = none ∧
    select { atIrq with run := .waiting, irqInhibit := false } = some (.maskable .irq) ∧
    VectorMapped (.maskable .irq) { atIrq with run := .waiting } ∧
    select { atNop with run := .waiting, irqInhibit := false } = none := by
  refine ⟨rfl, rfl, rfl, ⟨by decide, by decide⟩, rfl⟩

/-- A stopped machine with given CCR and request lines. -/
def halted (ccr : Byte) (lines : List Line) : State := { start with ccr := ccr, run := .stopped, lines := lines }

theorem witness_StoppedMachine :
    envTurn (halted 0x10 [.xirq]) = halted 0x10 [.xirq] ∧ topReset (halted 0x10 [.xirq]) = none ∧
    (Line.xirq ∈ (halted 0x10 [.xirq]).lines ∧ (halted 0x10 [.xirq]).flag .x = false ∧
      EntryReady .xirq (halted 0x10 [.xirq])) ∧
    (Line.xirq ∈ (halted 0x50 [.xirq]).lines ∧ (halted 0x50 [.xirq]).flag .x = true) ∧
    (Line.xirq ∉ (halted 0x40 [.irq]).lines ∧ Line.irq ∈ (halted 0x40 [.irq]).lines ∧
      (halted 0x40 [.irq]).flag .i = false ∧ EntryReady (.maskable .irq) (halted 0x40 [.irq])) ∧
    (Line.xirq ∉ (halted 0x50 [.irq]).lines ∧
      ¬(Line.irq ∈ (halted 0x50 [.irq]).lines ∧ (halted 0x50 [.irq]).flag .i = false)) := by
  refine ⟨rfl, rfl, ⟨by decide, by decide, ready ⟨by decide, by decide⟩ (by decide) (by decide)⟩, by decide,
    ⟨by decide, by decide, by decide, ready ⟨by decide, by decide⟩ (by decide) (by decide)⟩, by decide⟩

theorem witness_InhibitHoldsOneInstruction :
    envTurn { atIrq with irqInhibit := true } = { atIrq with irqInhibit := true } ∧
    topReset { atIrq with irqInhibit := true } = none ∧ ({ atIrq with irqInhibit := true } : State).run = .running ∧
    ¬(Line.xirq ∈ atIrq.lines ∧ atIrq.flag .x = false) := by
  refine ⟨rfl, rfl, rfl, by decide⟩

theorem witness_SpecTablesDecode :
    (0x00 : Byte) ∉ ([0x83, 0x93, 0xA3, 0xAC, 0xB3, 0xEE, 0xEF] : List Byte) ∧
    (0x83 : Byte) ∉ ([0xA3, 0xAC, 0xEE, 0xEF] : List Byte) := by
  decide

theorem witness_Branches : (0x28, Instr.bvc 0x05) ∈ branchOpcodes 0x05 := by decide

theorem witness_BranchOpcodePairs :
    (0, Instr.bra 0xFE, Instr.brn 0xFE) ∈ branchPairs 0xFE ∧ (7, Instr.bgt 0x80, Instr.ble 0x80) ∈ branchPairs 0x80 := by
  decide

/-- CallThenReturn and StackBalance. -/
theorem witness_ram_stack :
    start.Inv ∧ IsRam start start.sp ∧ IsRam start (start.sp - 1) ∧
    IsRam { start with sp := 0x0000 } 0x0000 ∧ IsRam { start with sp := 0x0000 } 0xFFFF ∧
    IsMem { start with sp := 0xFFFE } 0xFFFF ∧ IsMem { start with sp := 0xFFFE } 0x0000 := by
  refine ⟨⟨by decide, by decide⟩, by decide, by decide, by decide, by decide, by decide, by decide⟩

theorem witness_MultiplyAndDivide :
    ({ start with x := 1 } : State).x ≠ 0 ∧ start.x = 0 ∧
    ({ start with b := 1, x := 2 } : State).d.toNat < ({ start with b := 1, x := 2 } : State).x.toNat ∧
    ({ start with b := 2, x := 2 } : State).x.toNat ≤ ({ start with b := 2, x := 2 } : State).d.toNat := by
  decide

theorem witness_DecimalAddition :
    (9 : Nat) < 10 ∧ ({ start with a := 0x99 } : State).a = packBcd 9 9 ∧
    ({ start with b := 0x01 } : State).b = packBcd 0 1 := by
  decide

/-- SoftwareInterrupt, StopAndTest, ReturnUndoesEntry. -/
theorem witness_entry : EntryReady .swi start ∧ EntryReady .ill start ∧ EntryReady (.maskable .sci) start := by
  refine ⟨ready ⟨by decide, by decide⟩ (by decide) (by decide),
    ready ⟨by decide, by decide⟩ (by decide) (by decide),
    ready ⟨by decide, by decide⟩ (by decide) (by decide)⟩

theorem witness_WaitInstruction : start.Inv ∧ ∀ a ∈ frameAt start, IsRam start a := by
  exact ⟨⟨by decide, by decide⟩, frame_is_ram (by decide)⟩

theorem witness_StopAndTest_stop : start.flag .s = true ∧ ({ start with ccr := 0x50 } : State).flag .s = false := by
  decide

theorem witness_StopAndTest_test :
    ({ start with cfg := { allRam with mode := .specialTest } } : State).cfg.mode = .specialTest ∧
    start.cfg.mode = .normal ∧ EntryReady .ill start := by
  refine ⟨rfl, rfl, ready ⟨by decide, by decide⟩ (by decide) (by decide)⟩

theorem witness_ReturnFromInterrupt :
    ∀ k : Nat, 1 ≤ k → k ≤ 9 → IsMem { start with sp := 0xFFFB } (0xFFFB + BitVec.ofNat 16 k) := by
  intro k h l
  have : k < 10 := by omega
  revert h l
  revert k
  decide

/-- RAM in the first half, the register block, ROM above, a hole below it. -/
def mixed : Params :=
  { Params.default with memoryMap := [⟨0x8000, 0x8000, .rom⟩, ⟨0x7000, 0x1000, .unmapped⟩] }

theorem witness_MemoryKinds :
    ({ start with cfg := mixed } : State).Inv ∧ IsRam { start with cfg := mixed } 0x0000 ∧
    kindAt mixed 0x8000 = .rom ∧ kindAt mixed 0xFFFF = .rom ∧ kindAt mixed 0x7FFF = .unmapped ∧
    kindAt mixed 0x1000 = .io ∧ kindAt mixed 0x103F = .io ∧ kindAt mixed 0x0FFF = .ram ∧ kindAt mixed 0x1040 = .ram ∧
    IsMem { start with cfg := mixed } 0xFFFF ∧ readsBack start.io (ioNameOf mixed 0x1023) = some start.io.tflg1 ∧
    ioNameOf mixed 0x100B = .cforc ∧ start.busScript = [] := by
  refine ⟨⟨by decide, by decide⟩, by decide, by decide, by decide, rfl, by decide, by decide, by decide, by decide, by decide, by decide,
    by decide, by decide⟩

theorem witness_WordsAreBigEndian :
    start.Inv ∧ IsMem start 0xFFFF ∧ IsMem start (0xFFFF + 1) ∧ IsRam start 0xFFFF ∧ IsRam start (0xFFFF + 1) := by
  refine ⟨⟨by decide, by decide⟩, by decide, by decide, by decide, by decide⟩

theorem witness_OperandForms :
    IsMem { start with y := 0xFF01 } (eaAddr (.indy 0xFF) { start with y := 0xFF01 }) ∧
    IsMem { start with y := 0xFF01 } (eaAddr (.indy 0xFF) { start with y := 0xFF01 } + 1) := by
  decide

theorem witness_FlagRegisterClears :
    kindAt Params.default (eaAddr (.ext 0x1023) start) = .io ∧ ioNameOf Params.default 0x1023 = .tflg1 ∧
    start.busScript = [] := by
  decide

theorem witness_TimerEvents :
    (halted 0x50 []).run = .stopped ∧ start.run ≠ .stopped ∧
    (∀ n, (0xE0 : Byte).getLsbD (compareBit n) =
      decide (compareReg { start.io with toc1 := 7, toc2 := 7, toc3 := 7, toc4 := 0, toc5 := 8 } n = 7)) ∧
    actionPair 0x00 .oc2 = (false, false) ∧ selectsEdge .asSource 0x08 .ic3 .falling = true ∧
    selectsEdge .asSource 0x08 .ic3 .rising = false ∧ selectsEdge .asSource 0xFF .ic4 .rising = false ∧
    selectsEdge .shifted 0x40 .ic4 .rising = true ∧ selectsEdge .shifted 0x02 .ic3 .falling = true ∧
    start.busScript = [] ∧ ({ start with busScript := [[.count 7], []] } : State).busScript = [.count 7] :: [[]] := by
  refine ⟨rfl, by decide, by rintro (_ | _) <;> decide, by decide, by decide, by decide, by decide, by decide, by decide,
    rfl, rfl⟩

theorem witness_RegisterBlockWrites :
    kindAt Params.default 0x1000 = .io ∧ ioNameOf Params.default 0x1000 = .porta ∧
    ioNameOf Params.default 0x100B = .cforc ∧ ioNameOf Params.default 0x1023 = .tflg1 ∧
    storedInto .asSource (ioNameOf Params.default 0x1021) 0xFF start.io = some { start.io with tctl2 := 0xFC } ∧
    storedInto .shifted (ioNameOf Params.default 0x1021) 0xFF start.io = some { start.io with tctl2 := 0xFF } ∧
    storedInto .asSource (ioNameOf Params.default 0x1016) 0x12 start.io = some { start.io with toc1 := 0x1200 } ∧
    storedInto .asSource (ioNameOf Params.default 0x101F) 0x34 start.io = some { start.io with toc5 := 0x0034 } ∧
    storedInto .asSource (ioNameOf Params.default 0x1010) 0x12 start.io = some start.io ∧
    storedInto .asSource (ioNameOf Params.default 0x100E) 0x12 start.io = some start.io ∧
    storedInto .asSource (ioNameOf Params.default 0x103F) 0x12 start.io = some start.io := by
  decide

theorem witness_XMaskIsOneWay :
    (exec .nop { start with ccr := 0x90 } = .next { start with ccr := 0x90 } ∧
      ({ start with ccr := 0x90 } : State).flag .x = false) ∧
    after (step { start with ccr := 0x90, lines := [.xirq] }) (fun t => t.flag .x) = true ∧
    after (step { start with ccr := 0x90, resets := [.cop] }) (fun t => t.run == .running) = true ∧
    start.flag .x = true := by
  refine ⟨⟨rfl, by decide⟩, by decide, by decide, by decide⟩

theorem witness_OnlyTheNamedWriters :
    (∃ t, exec .nop start = .next t) ∧ Instr.nop ≠ .tap ∧ Instr.nop ≠ .rti ∧ Instr.nop ≠ .aba ∧
    (∀ m, Instr.nop ≠ .adda m) ∧ start.run = .running ∧ Instr.nop ≠ .wai ∧ Instr.nop ≠ .stop ∧ Instr.nop ≠ .test := by
  refine ⟨⟨start, rfl⟩, nofun, nofun, nofun, nofun, rfl, nofun, nofun, nofun⟩

theorem witness_LoadsExampleRecord :
    start.mem.wf ∧
    (match loadS19 exampleRecord start with
      | .ok t => t.stored 0x0170 == 0x70 && t.stored 0x017F == 0x7F && t.stored 0x0180 == 0x00
      | .error _ => false) = true := by
  refine ⟨by decide, by decide⟩

end Sys2Proof.Tests
end

section
/-! CERTIFICATE. NZ8 and ADD8 (10_state.md R33, R35): what `flagN`, `flagZ`, `addFlags` and `addHalf` compute, and O19
from it. All but H, which only ADD8 has, is stated for every width, so that NZ16 and ADD16 (R34, R37) are instances. -/

namespace Sys2Proof.Machine

/-! ### N and Z of a result -/

theorem flagN_eq_getLsbD {w : Nat} (r : BitVec w) : flagN r = r.getLsbD (w - 1) := BitVec.msb_eq_getLsbD_last r

theorem flagZ_eq_decide {w : Nat} (r : BitVec w) : flagZ r = decide (r = 0) := rfl

/-! ### The parts of a sum -/

section
variable {w : Nat} (a m : BitVec w) (cin : Bool)

theorem addFlags_r_toNat : (addFlags a m cin).r.toNat = (a.toNat + m.toNat + cin.toNat) % 2 ^ w :=
  BitVec.toNat_ofNat _ _

theorem addFlags_c : (addFlags a m cin).c = decide (2 ^ w ≤ a.toNat + m.toNat + cin.toNat) := rfl

theorem addFlags_n : (addFlags a m cin).n = flagN (addFlags a m cin).r := rfl

theorem addFlags_z : (addFlags a m cin).z = flagZ (addFlags a m cin).r := rfl

theorem addFlags_v : (addFlags a m cin).v = (flagN a == flagN m && flagN (addFlags a m cin).r != flagN a) := rfl

end

/-- The sum wraps at most once, since the operands and the carry in add up to less than twice the modulus. -/
theorem addFlags_r_toNat_cond {w : Nat} (a m : BitVec w) (cin : Bool) :
    (addFlags a m cin).r.toNat =
      if (addFlags a m cin).c then a.toNat + m.toNat + cin.toNat - 2 ^ w else a.toNat + m.toNat + cin.toNat := by
  have ha := a.isLt
  have hm := m.isLt
  have hc := cin.toNat_le
  simp only [addFlags_r_toNat, addFlags_c, decide_eq_true_eq]
  split
  · next hcarry => rw [Nat.mod_eq_sub_mod hcarry, Nat.mod_eq_of_lt (by omega)]
  · next hfits => exact Nat.mod_eq_of_lt (by omega)

/-- The signs' rule for V is signed overflow: operands of different signs have a sum in range, and a sum of two operands
of one sign is out of range exactly when the result shows the other sign. -/
theorem addFlags_v_eq_signed_overflow {w : Nat} (a m : BitVec (w + 1)) (cin : Bool) :
    (addFlags a m cin).v =
      decide (a.toInt + m.toInt + cin.toNat < -2 ^ w ∨ 2 ^ w ≤ a.toInt + m.toInt + cin.toNat) := by
  have ha := a.isLt
  have hm := m.isLt
  have hc := cin.toNat_le
  have hr := addFlags_r_toNat_cond a m cin
  have hpow : (2 : Int) ^ w = (2 ^ w : Nat) := by norm_cast
  simp only [addFlags_c, decide_eq_true_eq, pow_succ] at ha hm hr
  simp only [addFlags_v, flagN, BitVec.msb_eq_decide, BitVec.toInt_eq_toNat_cond, hpow, Nat.add_sub_cancel, pow_succ]
  generalize 2 ^ w = half at *
  by_cases hsigns : half ≤ a.toNat ↔ half ≤ m.toNat
  · have hv : (decide (half ≤ a.toNat) == decide (half ≤ m.toNat)) = true :=
      beq_iff_eq.mpr (decide_eq_decide.mpr hsigns)
    rw [hv, Bool.true_and, Bool.eq_iff_iff]
    simp only [bne_iff_ne, ne_eq, decide_eq_decide, decide_eq_true_eq]
    split at hr <;> omega
  · have hv : (decide (half ≤ a.toNat) == decide (half ≤ m.toNat)) = false :=
      beq_false_of_ne (mt decide_eq_decide.mp hsigns)
    rw [hv, Bool.false_and, eq_comm, decide_eq_false_iff_not]
    split <;> split <;> omega

/-- H of ADD8 is the carry out of the sum of the low four bits (R35). -/
theorem addHalf_eq_decide (a m : Byte) (cin : Bool) :
    addHalf a m cin = decide (15 < a.toNat % 16 + m.toNat % 16 + cin.toNat) := rfl

/-- Settles O19: the rules of NZ8 and ADD8 at width 8, with V by the signs' rule and as signed overflow. -/
theorem addByteFlags : Obligations.AddByteFlags := by
  unfold Obligations.AddByteFlags
  refine ⟨fun r => ⟨flagN_eq_getLsbD r, flagZ_eq_decide r⟩, fun a m c => ⟨addFlags_r_toNat a m c,
    addHalf_eq_decide a m c, addFlags_c a m c, ?signs, ?overflow, ?negative, ?zero⟩⟩
  case signs => simp only [addFlags_v, flagN_eq_getLsbD]
  case overflow => exact addFlags_v_eq_signed_overflow a m c
  case negative => rw [addFlags_n, flagN_eq_getLsbD]
  case zero => rw [addFlags_z, flagZ_eq_decide]

end Sys2Proof.Machine
end

section
/-! CERTIFICATE. The two-byte accesses (20_memory.md R64): the bytes of a word as numbers, what memory holds after a word
is stored, and O53 from them. -/

namespace Sys2Proof.Machine

/-! ### The bytes of a word as numbers -/

theorem hi_toNat (v : Word) : (hi v).toNat = v.toNat / 256 := by
  have hv := v.isLt
  rw [hi, BitVec.extractLsb'_toNat, Nat.shiftRight_eq_div_pow]
  omega

theorem lo_toNat (v : Word) : (lo v).toNat = v.toNat % 256 := by
  rw [lo, BitVec.extractLsb'_toNat, Nat.shiftRight_zero]

/-! ### The two addresses of a word, and what memory holds after a store -/

/-- The bytes of a word are two addresses also at $FFFF, where the second is $0000. -/
theorem ne_next_address (a : Word) : a ≠ a + 1 := by bv_omega

section
variable {s : State} {a : Word}

theorem memWrite16_stored_hi (v : Word) (w : s.mem.wf) (h : kindAt s.cfg a = .ram) :
    (memWrite16 a v s).stored a = hi v := by
  rw [memWrite16, memWrite_stored_ne _ _ (ne_next_address a), memWrite_stored_same _ h w]

theorem memWrite16_stored_lo (v : Word) (w : s.mem.wf) (l : kindAt s.cfg (a + 1) = .ram) :
    (memWrite16 a v s).stored (a + 1) = lo v :=
  memWrite_stored_same _ (by rwa [memWrite_cfg]) (memWrite_wf w _ _)

/-- A word stored in RAM is the word read back. -/
theorem memRead16_memWrite16 (v : Word) (w : s.mem.wf) (h : kindAt s.cfg a = .ram)
    (l : kindAt s.cfg (a + 1) = .ram) : memRead16 a (memWrite16 a v s) = (v, memWrite16 a v s) := by
  rw [memRead16_ram (by rwa [memWrite16_cfg]) (by rwa [memWrite16_cfg]), memWrite16_stored_hi v w h,
    memWrite16_stored_lo v w l, cat16_hi_lo]

end

theorem memWrite16_storesOnly (a v : Word) (s : State) :
    Claims.StoresOnly [a, a + 1] s (memWrite16 a v s) := by
  intro b hb
  obtain ⟨hfirst, hsecond⟩ : b ≠ a ∧ b ≠ a + 1 := by simpa using hb
  exact memWrite16_stored_ne v s hfirst hsecond

/-- Settles O53: a two-byte access is its two byte accesses in the order of the addresses, and in memory the numbers of
the bytes and of the word agree. -/
theorem wordsAreBigEndian : Obligations.WordsAreBigEndian := by
  unfold Obligations.WordsAreBigEndian
  intro s a v
  refine ⟨memRead16_eq a s, rfl, ?word, hi_toNat v, lo_toNat v, ?inMemory, ?inRam⟩
  case word =>
    intro h l
    rw [cat16_toNat, Nat.mul_comm]
  case inMemory =>
    intro hfirst hsecond
    rw [memRead16_eq_stored hfirst hsecond, cat16_toNat, Nat.mul_comm]
    exact ⟨rfl, rfl⟩
  case inRam =>
    rintro ⟨hwf, -⟩ hfirst hsecond
    rw [memWrite16_stored_hi v hwf hfirst, memWrite16_stored_lo v hwf hsecond,
      memRead16_memWrite16 v hwf hfirst hsecond]
    exact ⟨hi_toNat v, lo_toNat v, rfl, memWrite16_storesOnly a v s⟩

end Sys2Proof.Machine
end

section
/-! CERTIFICATE. The decoder (30_encoding.md R92): what a pair with a row and a pair with none decode to, which opcodes
pages $1A and $CD have (R106), and O2 from them. -/

namespace Sys2Proof

open Sys2Proof.Machine

/-! ### What a (page, opcode) pair decodes to -/

section
variable {p : Page} {b op : Byte} {bs : List Byte} {lead n : Nat} {row : Row} {i : Instr}

theorem decodeOn_of_row (hrow : rowAt p op = some row) (hbuild : row.build bs = some i) :
    decodeOn p lead op bs = .ok (i, lead + row.operandBytes) := by
  simp only [decodeOn, hrow, hbuild]

theorem decodeOn_of_no_row (hrow : rowAt p op = none) :
    decodeOn p lead op bs = .error (.illegalOpcode p op) := by
  simp only [decodeOn, hrow]

theorem decode_of_not_prebyte (hpage : prebytePage op = none) : decode (op :: bs) = decodeOn .page0 1 op bs := by
  simp only [decode, hpage]

theorem decode_of_prebyte (hpage : prebytePage b = some p) : decode (b :: op :: bs) = decodeOn p 2 op bs := by
  simp only [decode, hpage]

theorem decode_of_page0_row (hpage : prebytePage op = none) (hrow : rowAt .page0 op = some row)
    (hbuild : row.build bs = some i) (hlength : 1 + row.operandBytes = n) : decode (op :: bs) = .ok (i, n) := by
  rw [decode_of_not_prebyte hpage, decodeOn_of_row hrow hbuild, hlength]

theorem decode_of_prebyte_row (hpage : prebytePage b = some p) (hrow : rowAt p op = some row)
    (hbuild : row.build bs = some i) (hlength : 2 + row.operandBytes = n) : decode (b :: op :: bs) = .ok (i, n) := by
  rw [decode_of_prebyte hpage, decodeOn_of_row hrow hbuild, hlength]

theorem decode_of_prebyte_no_row (hpage : prebytePage b = some p) (hrow : rowAt p op = none) :
    decode (b :: op :: bs) = .error (.illegalOpcode p op) := by
  rw [decode_of_prebyte hpage, decodeOn_of_no_row hrow]

end

/-! ### The opcodes of pages $1A and $CD -/

theorem page1ARow_eq_none_iff (n : Nat) :
    page1ARow n = none ↔ n ∉ [0x83, 0x93, 0xA3, 0xAC, 0xB3, 0xEE, 0xEF] := by
  unfold page1ARow
  split <;> simp_all

theorem pageCDRow_eq_none_iff (n : Nat) : pageCDRow n = none ↔ n ∉ [0xA3, 0xAC, 0xEE, 0xEF] := by
  unfold pageCDRow
  split <;> simp_all

theorem rowAt_page1A_eq_none_iff (op : Byte) :
    rowAt .page1A op = none ↔ op ∉ ([0x83, 0x93, 0xA3, 0xAC, 0xB3, 0xEE, 0xEF] : List Byte) := by
  rw [rowAt, page1ARow_eq_none_iff, ← List.mem_map_of_injective BitVec.toNat_injective]
  rfl

theorem rowAt_pageCD_eq_none_iff (op : Byte) :
    rowAt .pageCD op = none ↔ op ∉ ([0xA3, 0xAC, 0xEE, 0xEF] : List Byte) := by
  rw [rowAt, pageCDRow_eq_none_iff, ← List.mem_map_of_injective BitVec.toNat_injective]
  rfl

/-- Settles O2: each word is read off its row of the table, and a pair off the two lists has no row. -/
theorem specTablesDecode : Obligations.SpecTablesDecode := by
  unfold Obligations.SpecTablesDecode
  refine ⟨fun h l => ?rows, fun op rest => ⟨fun hop => ?illegal1A, fun hop => ?illegalCD⟩, ?jmp, ?staa, ?cpd, ?jsr,
    ?ldaaImm, ?ldaaIndy, ?ldd, ?brset, ?xgdy, ?rti⟩
  case rows =>
    refine ⟨⟨?_, rfl⟩, ⟨?_, rfl⟩, ⟨?_, rfl⟩, ⟨?_, rfl⟩, ⟨?_, rfl⟩, ⟨?_, rfl⟩, ⟨?_, rfl⟩, ⟨?_, rfl⟩, ⟨?_, rfl⟩,
      ⟨?_, rfl⟩, ⟨?_, rfl⟩⟩ <;> exact decode_of_prebyte_row rfl rfl rfl rfl
  case illegal1A => exact decode_of_prebyte_no_row rfl ((rowAt_page1A_eq_none_iff op).2 hop)
  case illegalCD => exact decode_of_prebyte_no_row rfl ((rowAt_pageCD_eq_none_iff op).2 hop)
  case cpd | ldaaIndy | brset | xgdy => exact decode_of_prebyte_row rfl rfl rfl rfl
  case jmp | staa | jsr | ldaaImm | ldd | rti => exact decode_of_page0_row rfl rfl rfl rfl

end Sys2Proof
end

section
/-! CERTIFICATE. The two-byte branches (41_b_branch.md R160-R178): the target as a signed sum, the conditions as equations
between flags, the opcodes `$20` to `$2F`, and O33 from them. -/

namespace Sys2Proof.Machine

open Sys2Proof.Claims

/-! ### Where a branch goes -/

/-- Adding the sign-extended offset in 16 bits is adding it as an integer and wrapping the sum (30_encoding.md R101). -/
theorem relTarget_eq_target (pcNext : Word) (rr : Byte) : relTarget pcNext rr = target pcNext rr := by
  rw [target, BitVec.ofInt_add, BitVec.ofInt_natCast, BitVec.ofNat_toNat, BitVec.setWidth_eq]
  rfl

theorem branchIf_eq_branched (k : Cond) (rr : Byte) (s : State) :
    branchIf k rr s = branched rr s (k.holds s.ccr) := by
  rw [branchIf, branched, relTarget_eq_target]
  rfl

/-- The common behaviour of the branches (R160): the instruction's meaning names its condition, and that condition is the
rule's. -/
theorem exec_eq_branched {i : Instr} {k : Cond} {rr : Byte} {s : State} {taken : Bool}
    (hexec : exec i s = .next (branchIf k rr s)) (hcond : k.holds s.ccr = taken) :
    exec i s = .next (branched rr s taken) := by
  rw [hexec, branchIf_eq_branched, hcond]

/-! ### The conditions that the rules write with OR and XOR under a negation -/

theorem Cond.holds_hi (s : State) : Cond.hi.holds s.ccr = (!s.flag .c && !s.flag .z) := Bool.not_or _ _

theorem Cond.holds_ge (s : State) : Cond.ge.holds s.ccr = (s.flag .n == s.flag .v) := Bool.not_not _

theorem Cond.holds_gt (s : State) : Cond.gt.holds s.ccr = (!s.flag .z && s.flag .n == s.flag .v) :=
  calc Cond.gt.holds s.ccr
    _ = (!s.flag .z && !(s.flag .n ^^ s.flag .v)) := Bool.not_or _ _
    _ = (!s.flag .z && s.flag .n == s.flag .v) := congrArg (!s.flag .z && ·) (Cond.holds_ge s)

/-! ### The opcodes -/

/-- An opcode whose row is of the REL format takes one offset byte. -/
theorem decode_rel {op rr : Byte} {f : Byte → Instr} (hpage : prebytePage op = none)
    (hrow : rowAt .page0 op = some (.rel f)) : decode [op, rr] = .ok (f rr, 2) :=
  decode_of_page0_row hpage hrow rfl rfl

theorem branchOpcodes_decode_cycles (rr : Byte) :
    ∀ p ∈ branchOpcodes rr, decode [p.1, rr] = .ok (p.2, 2) ∧ cycleCount p.2 = .exact 3 := by
  intro p hp
  fin_cases hp <;> exact ⟨decode_rel rfl rfl, rfl⟩

/-- Settles O33: each branch runs `branchIf` on its own condition, and each opcode's row is of the REL format. -/
theorem branches : Obligations.Branches := by
  unfold Obligations.Branches
  intro s rr
  refine ⟨?bra, ?brn, ?bhi, ?bls, ?bcc, ?bhs, ?bcs, ?blo, ?bne, ?beq, ?bvc, ?bvs, ?bpl, ?bmi, ?bge, ?blt, ?bgt, ?ble,
    branchOpcodes_decode_cycles rr, rfl, rfl, rfl, rfl⟩
  case bhi => exact exec_eq_branched rfl (Cond.holds_hi s)
  case bge => exact exec_eq_branched rfl (Cond.holds_ge s)
  case bgt => exact exec_eq_branched rfl (Cond.holds_gt s)
  case bra | brn | bls | bcc | bhs | bcs | blo | bne | beq | bvc | bvs | bpl | bmi | blt | ble =>
    exact exec_eq_branched rfl rfl

end Sys2Proof.Machine
end

section
/-! CERTIFICATE. The decoder undoes the encoder (30_encoding.md sections 1 and 4): for each format of R91 what its encoding
decodes to, then O1, one row of the opcode map per constructor and mode. -/

namespace Sys2Proof

open Sys2Proof.Machine

/-! ### The opcode bytes and the row they select -/

/-- The row that the bytes of an opcode, prebyte included, select (R92). -/
def rowOf : List Byte → Option Row
  | [op] => if prebytePage op = none then rowAt .page0 op else none
  | [b, op] => (prebytePage b).bind fun p => rowAt p op
  | _ => none

/-- The bytes decode to the instruction and their own length, whatever follows them. -/
def DecodesTo (bytes : List Byte) (i : Instr) : Prop := ∀ rest, decode (bytes ++ rest) = .ok (i, bytes.length)

theorem decode_of_rowOf {op bs : List Byte} {row : Row} {i : Instr} (hrow : rowOf op = some row)
    (hbuild : row.build bs = some i) : decode (op ++ bs) = .ok (i, op.length + row.operandBytes) := by
  unfold rowOf at hrow
  split at hrow
  · next o =>
    split at hrow
    · next hpage => exact decode_of_page0_row hpage hrow hbuild rfl
    · cases hrow
  · next b o =>
    obtain ⟨p, hpage, hrow⟩ := Option.bind_eq_some_iff.1 hrow
    exact decode_of_prebyte_row hpage hrow hbuild rfl
  · cases hrow

/-- Operand bytes from which the row builds the instruction, as many as the row takes. -/
theorem decodesTo_of_rowOf {op bs : List Byte} {row : Row} {i : Instr} (hrow : rowOf op = some row)
    (hbuild : ∀ rest, row.build (bs ++ rest) = some i) (hlength : bs.length = row.operandBytes) :
    DecodesTo (op ++ bs) i := fun rest => by
  rw [List.append_assoc, decode_of_rowOf hrow (hbuild rest), List.length_append, hlength]

/-! ### The formats without a memory operand -/

section
variable {op : List Byte}

theorem decodesTo_inh {i : Instr} (hrow : rowOf op = some (.inh i)) : DecodesTo op i := by
  simpa using decodesTo_of_rowOf (bs := []) hrow (fun _ => rfl) rfl

theorem decodesTo_rel {f : Byte → Instr} {r : Byte} (hrow : rowOf op = some (.rel f)) :
    DecodesTo (op ++ [r]) (f r) := decodesTo_of_rowOf hrow (fun _ => rfl) rfl

theorem decodesTo_imm8 {f : Byte → Instr} {v : Byte} (hrow : rowOf op = some (.imm8 f)) :
    DecodesTo (op ++ [v]) (f v) := decodesTo_of_rowOf hrow (fun _ => rfl) rfl

theorem decodesTo_imm16 {f : Word → Instr} {v : Word} (hrow : rowOf op = some (.imm16 f)) :
    DecodesTo (op ++ [hi v, lo v]) (f v) :=
  decodesTo_of_rowOf hrow (fun _ => by simp [Row.build]) rfl

end

/-! ### The formats with a memory operand -/

/-- The mode of a memory operand. -/
def Ea.mode : Ea → EaMode
  | .dir _ => .dir | .ext _ => .ext | .indx _ => .indx | .indy _ => .indy

/-- The one of four that belongs to the operand's mode. -/
def Ea.pick {α : Type} (dir ext indx indy : α) : Ea → α
  | .dir _ => dir | .ext _ => ext | .indx _ => indx | .indy _ => indy

theorem Ea.bytes_length (e : Ea) : e.bytes.length = e.mode.size := by cases e <;> rfl

/-- The address bytes are read back as the operand they encode (R97-R100). -/
theorem EaMode.take_bytes (e : Ea) (rest : List Byte) : e.mode.take (e.bytes ++ rest) = some (e, rest) := by
  cases e with
  | ext a => simp [Ea.mode, Ea.bytes, EaMode.take]
  | _ => rfl

theorem encEa_eq {dir ext indx indy : List Byte} {e : Ea} (after : List Byte) {row : Row}
    (hrow : rowOf (e.pick dir ext indx indy) = some row) :
    encEa dir ext indx indy e after = e.pick dir ext indx indy ++ (e.bytes ++ after) := by
  have hop : (e.pick dir ext indx indy).isEmpty = false := by
    cases h : e.pick dir ext indx indy with
    | nil => rw [h] at hrow; cases hrow
    | cons => rfl
  cases e <;> simp_all [encEa, Ea.pick]

section
variable {dir ext indx indy : List Byte} {e : Ea}

theorem decodesTo_ea {f : Ea → Instr} (hrow : rowOf (e.pick dir ext indx indy) = some (.ea e.mode f)) :
    DecodesTo (encEa dir ext indx indy e []) (f e) := by
  rw [encEa_eq [] hrow]
  refine decodesTo_of_rowOf hrow (fun rest => ?_) (by simp [Ea.bytes_length, Row.operandBytes])
  simp [Row.build, EaMode.take_bytes]

theorem decodesTo_eaMask {f : Ea → Byte → Instr} {mm : Byte}
    (hrow : rowOf (e.pick dir ext indx indy) = some (.eaMask e.mode f)) :
    DecodesTo (encEa dir ext indx indy e [mm]) (f e mm) := by
  rw [encEa_eq [mm] hrow]
  refine decodesTo_of_rowOf hrow (fun rest => ?_) (by simp [Ea.bytes_length, Row.operandBytes])
  simp [Row.build, EaMode.take_bytes]

theorem decodesTo_eaMaskRel {f : Ea → Byte → Byte → Instr} {mm rr : Byte}
    (hrow : rowOf (e.pick dir ext indx indy) = some (.eaMaskRel e.mode f)) :
    DecodesTo (encEa dir ext indx indy e [mm, rr]) (f e mm rr) := by
  rw [encEa_eq [mm, rr] hrow]
  refine decodesTo_of_rowOf hrow (fun rest => ?_) (by simp [Ea.bytes_length, Row.operandBytes])
  simp [Row.build, EaMode.take_bytes]

/-! ### The instruction classes of the opcode map, by the modes they have -/

/-- Stores and JSR have all four modes. -/
theorem decodesTo_allModes {f : Ea → Instr} (hdir : rowOf dir = some (.ea .dir f))
    (hext : rowOf ext = some (.ea .ext f)) (hindx : rowOf indx = some (.ea .indx f))
    (hindy : rowOf indy = some (.ea .indy f)) : DecodesTo (encEa dir ext indx indy e []) (f e) := by
  cases e with
  | dir => exact decodesTo_ea hdir
  | ext => exact decodesTo_ea hext
  | indx => exact decodesTo_ea hindx
  | indy => exact decodesTo_ea hindy

/-- The read-modify-write instructions, TST and JMP have no DIR row. -/
theorem decodesTo_notDir {f : Ea → Instr} (hwf : e.notDir = true) (hext : rowOf ext = some (.ea .ext f))
    (hindx : rowOf indx = some (.ea .indx f)) (hindy : rowOf indy = some (.ea .indy f)) :
    DecodesTo (encEa [] ext indx indy e []) (f e) := by
  cases e with
  | dir => cases hwf
  | ext => exact decodesTo_ea hext
  | indx => exact decodesTo_ea hindx
  | indy => exact decodesTo_ea hindy

/-- BCLR and BSET have no EXT row. -/
theorem decodesTo_mask {f : Ea → Byte → Instr} {mm : Byte} (hwf : e.notExt = true)
    (hdir : rowOf dir = some (.eaMask .dir f)) (hindx : rowOf indx = some (.eaMask .indx f))
    (hindy : rowOf indy = some (.eaMask .indy f)) : DecodesTo (encEa dir [] indx indy e [mm]) (f e mm) := by
  cases e with
  | dir => exact decodesTo_eaMask hdir
  | ext => cases hwf
  | indx => exact decodesTo_eaMask hindx
  | indy => exact decodesTo_eaMask hindy

/-- BRCLR and BRSET have no EXT row. -/
theorem decodesTo_maskRel {f : Ea → Byte → Byte → Instr} {mm rr : Byte} (hwf : e.notExt = true)
    (hdir : rowOf dir = some (.eaMaskRel .dir f)) (hindx : rowOf indx = some (.eaMaskRel .indx f))
    (hindy : rowOf indy = some (.eaMaskRel .indy f)) :
    DecodesTo (encEa dir [] indx indy e [mm, rr]) (f e mm rr) := by
  cases e with
  | dir => exact decodesTo_eaMaskRel hdir
  | ext => cases hwf
  | indx => exact decodesTo_eaMaskRel hindx
  | indy => exact decodesTo_eaMaskRel hindy

variable {imm : List Byte}

/-- The 8-bit accumulator instructions have the immediate and all four memory modes. -/
theorem decodesTo_src8 {f : Src8 → Instr} {m : Src8} (himm : rowOf imm = some (.imm8 fun v => f (.imm v)))
    (hdir : rowOf dir = some (.ea .dir fun e => f (.mem e))) (hext : rowOf ext = some (.ea .ext fun e => f (.mem e)))
    (hindx : rowOf indx = some (.ea .indx fun e => f (.mem e)))
    (hindy : rowOf indy = some (.ea .indy fun e => f (.mem e))) :
    DecodesTo (encSrc8 imm dir ext indx indy m) (f m) := by
  cases m with
  | imm v => exact decodesTo_imm8 himm
  | mem e => exact decodesTo_allModes hdir hext hindx hindy

/-- The 16-bit instructions have the immediate and all four memory modes. -/
theorem decodesTo_src16 {f : Src16 → Instr} {m : Src16} (himm : rowOf imm = some (.imm16 fun v => f (.imm v)))
    (hdir : rowOf dir = some (.ea .dir fun e => f (.mem e))) (hext : rowOf ext = some (.ea .ext fun e => f (.mem e)))
    (hindx : rowOf indx = some (.ea .indx fun e => f (.mem e)))
    (hindy : rowOf indy = some (.ea .indy fun e => f (.mem e))) :
    DecodesTo (encSrc16 imm dir ext indx indy m) (f m) := by
  cases m with
  | imm v => exact decodesTo_imm16 himm
  | mem e => exact decodesTo_allModes hdir hext hindx hindy

end

/-- Every instruction's opcodes stand in the opcode map with its own format and constructor. -/
theorem encode_decodesTo_core (i : Instr) (hwf : i.WellFormed) : DecodesTo (encode i) i.core := by
  cases i
  case adca | adcb | adda | addb | anda | andb | bita | bitb | cmpa | cmpb | eora | eorb | ldaa | ldab | oraa | orab |
      sbca | sbcb | suba | subb =>
    exact decodesTo_src8 rfl rfl rfl rfl rfl
  case addd | cpd | cpx | cpy | ldd | lds | ldx | ldy | subd => exact decodesTo_src16 rfl rfl rfl rfl rfl
  case asl | asr | clr | com | dec | inc | lsl | lsr | neg | rol | ror | tst | jmp =>
    exact decodesTo_notDir hwf rfl rfl rfl
  case staa | stab | std | sts | stx | sty | jsr => exact decodesTo_allModes rfl rfl rfl rfl
  case bclr | bset => exact decodesTo_mask hwf rfl rfl rfl
  case brclr | brset => exact decodesTo_maskRel hwf rfl rfl rfl
  case bcc | bcs | beq | bge | bgt | bhi | bhs | ble | blo | bls | blt | bmi | bne | bpl | bra | brn | bsr | bvc | bvs =>
    exact decodesTo_rel (op := [_]) rfl
  all_goals exact decodesTo_inh rfl

/-- Settles O1: the instruction's row of the opcode map builds it from its own operand bytes. -/
theorem decodeOfEncode : Obligations.DecodeOfEncode := by
  unfold Obligations.DecodeOfEncode
  exact fun i rest hwf => encode_decodesTo_core i hwf rest

end Sys2Proof
end

section
/-! SUPPORT. The frames of the statements as a calculus: what each write of a register or a flag keeps, how two frames
compose, and what the accesses of Laws/Ops.lean keep; so the frame of an instruction is read off the writes its meaning is
made of. -/

namespace Sys2Proof.Claims

open Sys2Proof.Machine

section
variable {R R' : List CpuReg} {F F' : List Flag} {s t u : State}

/-! ### Composition -/

theorem KeepsData.trans (h : KeepsData R F s t) (k : KeepsData R' F' t u) :
    KeepsData (R ++ R') (F ++ F') s u := by
  obtain ⟨hregs, hflags, hlines, hresets, hcfg, hscript⟩ := h
  obtain ⟨kregs, kflags, klines, kresets, kcfg, kscript⟩ := k
  simp only [KeepsData, List.mem_append, not_or]
  exact ⟨fun r hr => (kregs r hr.2).trans (hregs r hr.1), fun f hf => (kflags f hf.2).trans (hflags f hf.1),
    klines.trans hlines, kresets.trans hresets, kcfg.trans hcfg, kscript.trans hscript⟩

theorem KeepsData.mono (h : KeepsData R F s t) (hR : ∀ r ∈ R, r ∈ R') (hF : ∀ f ∈ F, f ∈ F') :
    KeepsData R' F' s t :=
  ⟨fun r hr => h.1 r (mt (hR r) hr), fun f hf => h.2.1 f (mt (hF f) hf), h.2.2⟩

theorem Keeps.trans (h : Keeps R F s t) (k : Keeps R' F' t u) : Keeps (R ++ R') (F ++ F') s u :=
  ⟨h.1.trans k.1, k.2.1.trans h.2.1, k.2.2.trans h.2.2⟩

theorem Keeps.mono (h : Keeps R F s t) (hR : ∀ r ∈ R, r ∈ R') (hF : ∀ f ∈ F, f ∈ F') : Keeps R' F' s t :=
  ⟨h.1.mono hR hF, h.2⟩

theorem Keeps.refl (s : State) : Keeps [] [] s s := ⟨⟨fun _ _ => rfl, fun _ _ => rfl, rfl, rfl, rfl, rfl⟩, rfl, rfl⟩

/-- Only the listed registers and flags are written: nothing is stored, nothing of the I/O side changes. -/
def Writes (regs : List CpuReg) (flags : List Flag) (s t : State) : Prop :=
  Keeps regs flags s t ∧ t.mem = s.mem ∧ SameIo s t

theorem Writes.trans (h : Writes R F s t) (k : Writes R' F' t u) : Writes (R ++ R') (F ++ F') s u := by
  obtain ⟨hkeeps, hmem, hio, hevents, hbus⟩ := h
  obtain ⟨kkeeps, kmem, kio, kevents, kbus⟩ := k
  exact ⟨hkeeps.trans kkeeps, kmem.trans hmem, kio.trans hio, kevents.trans hevents, kbus.trans hbus⟩

theorem Writes.mono (h : Writes R F s t) (hR : ∀ r ∈ R, r ∈ R') (hF : ∀ f ∈ F, f ∈ F') : Writes R' F' s t :=
  ⟨h.1.mono hR hF, h.2⟩

theorem Writes.refl (s : State) : Writes [] [] s s := ⟨Keeps.refl s, rfl, rfl, rfl, rfl⟩

theorem KeepsMemory.of_mem_eq (h : t.mem = s.mem) : KeepsMemory s t := fun a => by rw [State.stored, h]; rfl

theorem Writes.keepsMemory (h : Writes R F s t) : KeepsMemory s t := KeepsMemory.of_mem_eq h.2.1

theorem Writes.noAccess (h : Writes R F s t) : NoAccess s t := ⟨h.keepsMemory, h.2.2⟩

theorem Writes.frame (h : Writes R F s t) : Keeps R F s t ∧ NoAccess s t := ⟨h.1, h.noAccess⟩

end

/-! ### Writes of one register -/

section
variable (s : State) {R : List CpuReg} {F : List Flag}

/-- A state that differs in registers only, and in none but one, writes that one. -/
theorem Writes.of_register {k : CpuReg} {a b : Byte} {x y sp pc : Word}
    (h : ∀ r, r ≠ k → value { s with a := a, b := b, x := x, y := y, sp := sp, pc := pc } r = value s r) :
    Writes [k] [] s { s with a := a, b := b, x := x, y := y, sp := sp, pc := pc } :=
  ⟨⟨⟨fun r hr => h r (by simpa using hr), fun _ _ => rfl, rfl, rfl, rfl, rfl⟩, rfl, rfl⟩, rfl, rfl, rfl, rfl⟩

theorem writes_setA (v : Byte) : Writes [.a] [] s (s.setA v) :=
  .of_register s fun r hr => by
    cases r with
    | a => exact absurd rfl hr
    | _ => rfl
theorem writes_setB (v : Byte) : Writes [.b] [] s (s.setB v) :=
  .of_register s fun r hr => by
    cases r with
    | b => exact absurd rfl hr
    | _ => rfl
theorem writes_setX (v : Word) : Writes [.x] [] s (s.setX v) :=
  .of_register s fun r hr => by
    cases r with
    | x => exact absurd rfl hr
    | _ => rfl
theorem writes_setY (v : Word) : Writes [.y] [] s (s.setY v) :=
  .of_register s fun r hr => by
    cases r with
    | y => exact absurd rfl hr
    | _ => rfl
theorem writes_setSp (v : Word) : Writes [.sp] [] s (s.setSp v) :=
  .of_register s fun r hr => by
    cases r with
    | sp => exact absurd rfl hr
    | _ => rfl
theorem writes_setPc (v : Word) : Writes [.pc] [] s (s.setPc v) :=
  .of_register s fun r hr => by
    cases r with
    | pc => exact absurd rfl hr
    | _ => rfl

theorem writes_setD (v : Word) : Writes [.a, .b] [] s (s.setD v) := (writes_setA s (hi v)).trans (writes_setB _ (lo v))

/-- An accumulator as a register of the statements. -/
def accReg : Acc → CpuReg
  | .a => .a | .b => .b

/-- A 16-bit register as registers of the statements. -/
def wideRegs : Reg16 → List CpuReg
  | .d => [.a, .b] | .x => [.x] | .y => [.y] | .sp => [.sp]

theorem writes_setAcc (r : Acc) (v : Byte) : Writes [accReg r] [] s (s.setAcc r v) := by
  cases r with
  | a => exact writes_setA s v
  | b => exact writes_setB s v

theorem writes_setReg (r : Reg16) (v : Word) : Writes (wideRegs r) [] s (s.setReg r v) := by
  cases r with
  | d => exact writes_setD s v
  | x => exact writes_setX s v
  | y => exact writes_setY s v
  | sp => exact writes_setSp s v

/-! ### Writes of flags -/

theorem writes_setCcr {v : Byte} (h : ∀ f, f ∉ F → ccrGet v f = s.flag f) : Writes [] F s (s.setCcr v) :=
  ⟨⟨⟨fun r _ => by cases r <;> rfl, h, rfl, rfl, rfl, rfl⟩, rfl, rfl⟩, rfl, rfl, rfl, rfl⟩

theorem writes_setFlag (f : Flag) (v : Bool) : Writes [] [f] s (s.setFlag f v) :=
  writes_setCcr s fun _ hg => ccrGet_ccrSet_ne s.ccr v (by simpa using hg)

theorem writes_setNZVC {w : Nat} (f : Arith w) : Writes [] [.n, .z, .v, .c] s (s.setNZVC f) :=
  writes_setCcr s fun g hg => by cases g <;> simp [State.flag] at hg ⊢

theorem writes_setLogic {w : Nat} (r : BitVec w) : Writes [] [.n, .z, .v] s (s.setLogic r) :=
  writes_setCcr s fun g hg => by cases g <;> simp [State.flag] at hg ⊢

/-- Drawing a free value is no write of the statements' state. -/
theorem writes_setDraws (n : Nat) : Writes [] [] s (s.setDraws n) :=
  ⟨⟨⟨fun r _ => by cases r <;> rfl, fun _ _ => rfl, rfl, rfl, rfl, rfl⟩, rfl, rfl⟩, rfl, rfl, rfl, rfl⟩

/-! ### Accesses to memory -/

/-- Memory, the register block, the events, the free values and the timer's script are no registers. -/
theorem keeps_of_access (m : Memory) (io : IoRegs) (e : List IoEvent) (d : Nat) (b : List (List TimerEvent)) :
    Keeps [] [] s { s with mem := m, io := io, events := e, draws := d, busScript := b } :=
  ⟨⟨fun r _ => by cases r <;> rfl, fun _ _ => rfl, rfl, rfl, rfl, rfl⟩, rfl, rfl⟩

theorem keeps_memRead (a : Word) : Keeps [] [] s (memRead a s).2 := by
  rw [memRead_frame]; exact keeps_of_access s _ _ _ _ _

theorem keeps_memWrite (a : Word) (v : Byte) : Keeps [] [] s (memWrite a v s) := by
  rw [memWrite_frame]; exact keeps_of_access s _ _ _ _ _

theorem keeps_memWrite16 (a v : Word) : Keeps [] [] s (memWrite16 a v s) := by
  rw [memWrite16_frame]; exact keeps_of_access s _ _ _ _ _

theorem keeps_operand8 (m : Src8) : Keeps [] [] s (operand8 m s).2 := by
  rw [operand8_frame]; exact keeps_of_access s _ _ _ _ _

theorem keeps_operand16 (m : Src16) : Keeps [] [] s (operand16 m s).2 := by
  rw [operand16_frame]; exact keeps_of_access s _ _ _ _ _

theorem keeps_push8 (v : Byte) : Keeps [.sp] [] s (push8 v s) :=
  (keeps_memWrite s s.sp v).trans (writes_setSp _ _).1

theorem keeps_push16 (v : Word) : Keeps [.sp] [] s (push16 v s) := by
  rw [push16_eq]
  exact ((keeps_memWrite s _ _).trans (keeps_memWrite _ _ _)).trans (writes_setSp _ _).1

theorem keeps_pull8 : Keeps [.sp] [] s (pull8 s).2 := by
  rw [pull8_eq]
  exact (keeps_memRead s _).trans (writes_setSp _ _).1

theorem keeps_pull16 : Keeps [.sp] [] s (pull16 s).2 := by
  rw [pull16_eq]
  exact ((keeps_memRead s _).trans (keeps_memRead _ _)).trans (writes_setSp _ _).1

theorem keeps_pushFrame (r : Word) : Keeps [.sp] [] s (pushFrame r s) := by
  have words := ((keeps_push16 s r).trans (keeps_push16 _ s.y)).trans (keeps_push16 _ s.x)
  have bytes := ((words.trans (keeps_push8 _ s.a)).trans (keeps_push8 _ s.b)).trans (keeps_push8 _ s.ccr)
  exact bytes.mono (by simp) (by simp)

/-- An entry writes SP, PC, I and, for XIRQ, X; also the run state and the inhibit, which `KeepsData` leaves out. -/
theorem keepsData_trapEntry (src : TrapSource) (r : Word) (k : Bool) {F : List Flag} (hi : .i ∈ F)
    (hx : src = .xirq → .x ∈ F) : KeepsData [.sp, .pc] F s (trapEntry src r k s) := by
  refine ⟨fun q hq => ?_, fun f hf => ?_, by simp, by simp, by simp, by simp⟩
  · cases q <;> simp [value] at hq ⊢
  · rw [trapEntry_flag, if_neg (fun e : f = .i => hf (e ▸ hi)),
      if_neg (fun e : f = .x ∧ src = .xirq => hf (e.1 ▸ hx e.2))]

end

/-! ### From a frame to what the statements say of the I/O side -/

section
variable {R : List CpuReg} {F : List Flag} {s t : State}

/-- Registers written after an operand is read. -/
theorem Writes.reads8 {m : Src8} (h : Writes R F (operand8 m s).2 t) : Keeps R F s t ∧ Reads8 m s t :=
  ⟨(keeps_operand8 s m).trans h.1, KeepsMemory.of_mem_eq (by rw [h.2.1, operand8_mem]), h.2.2⟩

theorem Writes.reads16 {m : Src16} (h : Writes R F (operand16 m s).2 t) : Keeps R F s t ∧ Reads16 m s t :=
  ⟨(keeps_operand16 s m).trans h.1, KeepsMemory.of_mem_eq (by rw [h.2.1, operand16_mem]), h.2.2⟩

theorem Writes.readsByte {e : Ea} (h : Writes R F (memRead (eaAddr e s) s).2 t) : ReadsByte e s t ∧ Keeps R F s t :=
  ⟨⟨KeepsMemory.of_mem_eq (by rw [h.2.1, memRead_mem]), h.2.2⟩, (keeps_memRead s _).trans h.1⟩

/-- Registers written after a byte is stored. -/
theorem Writes.puts {a : Word} {v : Byte} (h : Writes R F (memWrite a v s) t) : Puts a v s t :=
  ⟨h.2.1, h.2.2, fun b hb => (h.keepsMemory b).trans (memWrite_stored_ne v s (by simpa using hb))⟩

theorem Writes.puts16 {a v : Word} (h : Writes R F (memWrite16 a v s) t) : Puts16 a v s t :=
  ⟨h.2.1, h.2.2, fun b hb => (h.keepsMemory b).trans (memWrite16_storesOnly a v s b hb)⟩

/-- Registers written after a byte is read and written back. -/
theorem Writes.rewrites {a : Word} {v : Byte} (h : Writes R F (memWrite a v (memRead a s).2) t) :
    Rewrites a v s t ∧ Keeps R F s t := by
  refine ⟨⟨h.puts, fun b hb => ?_⟩, ((keeps_memRead s a).trans (keeps_memWrite _ a v)).trans h.1⟩
  rw [h.puts.2.2 b hb, memRead_stored]

end

end Sys2Proof.Claims
end

section
/-! SUPPORT. The invariant of Safety.lean under each operation that can touch memory or the register block, and the frames of
the shared instruction shapes of Operands.lean. -/

namespace Sys2Proof.Machine

/-! ### The pin actions change pins only -/

theorem actPin_frame (io : IoRegs) (n : Compare) : actPin io n = { io with pins := (actPin io n).pins } := by
  unfold actPin
  dsimp only
  split <;> rfl

theorem actCompare_frame (io : IoRegs) (n : Compare) :
    actCompare io n = { io with pins := (actCompare io n).pins } := by
  cases n with
  | oc1 => rfl
  | _ => exact actPin_frame io _

theorem actOne_frame (which : Byte) (n : Compare) (io : IoRegs) :
    actOne which n io = { io with pins := (actOne which n io).pins } := by
  unfold actOne
  split
  · exact actCompare_frame io n
  · rfl

theorem actPairs_frame (which : Byte) (io : IoRegs) :
    actPairs which io = { io with pins := (actPairs which io).pins } := by
  unfold actPairs
  rw [actOne_frame which .oc5, actOne_frame which .oc4, actOne_frame which .oc3, actOne_frame which .oc2]

theorem actAll_io_frame (which : Byte) (s : State) :
    (actAll which s).io = { s.io with pins := (actAll which s).io.pins } := by
  simp only [actAll, State.setIo_io]
  rw [actOne_frame, actPairs_frame]

/-! ### TCTL2 -/

theorem applyTimer_tctl2 (e : TimerEvent) (s : State) : (applyTimer e s).io.tctl2 = s.io.tctl2 := by
  by_cases hrun : s.run = .stopped
  · rw [applyTimer_stopped hrun]
  · rw [applyTimer_clocked hrun]
    cases e with
    | count c => simp only [raiseFlags, State.setIo_io]; rw [actAll_io_frame]
    | capture n k c =>
      dsimp only
      split
      · cases n <;> rfl
      · rfl

theorem applyTimers_tctl2 (es : List TimerEvent) (s : State) : (applyTimers es s).io.tctl2 = s.io.tctl2 := by
  induction es generalizing s with
  | nil => rfl
  | cons e t ih => rw [applyTimers, ih, applyTimer_tctl2]

theorem busTurn_tctl2 (s : State) : (busTurn s).io.tctl2 = s.io.tctl2 := by
  unfold busTurn
  split
  · rfl
  · rw [applyTimers_tctl2]; rfl

theorem memRead_tctl2 (a : Word) (s : State) : (memRead a s).2.io.tctl2 = s.io.tctl2 := by
  unfold memRead
  split
  · rfl
  · rfl
  · rfl
  · simp only [logEvent, State.setEvents_io]
    rw [ioGet_frame, busTurn_tctl2]

/-- A store to the register block keeps TCTL2 or writes it without the bits its layout lacks (R471). -/
theorem ioPut_tctl2 (n : IoName) (v : Byte) (s : State) :
    (ioPut n v s).io.tctl2 = s.io.tctl2 ∨ (ioPut n v s).io.tctl2 = v &&& tctl2Bits s.cfg.tctl2Layout := by
  cases n with
  | tctl2 => exact .inr rfl
  | cforc =>
    refine .inl ?_
    simp only [ioPut, forceCompare, raiseFlags, drawByte, State.setIo_io, State.setDraws_io]
    rw [actAll_io_frame]
  | _ => exact .inl rfl

theorem applyEvents_tctl2 (es : List EnvEvent) (s : State) : (applyEvents es s).io.tctl2 = s.io.tctl2 := by
  induction es generalizing s with
  | nil => rfl
  | cons e t ih =>
    rw [applyEvents, ih]
    cases e with
    | assertLine l => simp only [applyEvent]; split <;> rfl
    | withdrawLine l => rfl
    | assertReset c => simp only [applyEvent]; split <;> rfl
    | timer e => exact applyTimer_tctl2 e s

theorem envTurn_tctl2 (s : State) : (envTurn s).io.tctl2 = s.io.tctl2 := by
  unfold envTurn
  split
  · rfl
  · rw [applyEvents_tctl2]; rfl

/-! ### The invariant -/

/-- A byte has none of the bits that are masked out of it. -/
theorem and_and_not_self (v m : Byte) : v &&& m &&& ~~~ m = 0 := by rw [BitVec.and_assoc, BitVec.and_not_self]; simp

theorem inv_congr {s t : State} (hmem : t.mem = s.mem) (htctl2 : t.io.tctl2 = s.io.tctl2) (hcfg : t.cfg = s.cfg)
    (h : s.Inv) : t.Inv := by
  rw [State.Inv, hmem, htctl2, hcfg]; exact h

section
variable {s : State} (h : s.Inv)
include h

theorem inv_memRead (a : Word) : (memRead a s).2.Inv := inv_congr (memRead_mem a s) (memRead_tctl2 a s) (memRead_cfg a s) h

theorem inv_memWrite (a : Word) (v : Byte) : (memWrite a v s).Inv := by
  refine ⟨memWrite_wf h.1 a v, ?_⟩
  rw [memWrite_cfg]
  unfold memWrite
  split
  · exact h.2
  · exact h.2
  · exact h.2
  · have hcfg : (logEvent (.write a v) (busTurn s)).cfg = s.cfg := by rw [logEvent, busTurn_frame]; rfl
    rcases ioPut_tctl2 (ioNameOf s.cfg a) v (logEvent (.write a v) (busTurn s)) with e | e
    · rw [e, logEvent, State.setEvents_io, busTurn_tctl2]; exact h.2
    · rw [e, hcfg]; exact and_and_not_self v _

end

section
variable {s : State}

theorem inv_setA (h : s.Inv) (v : Byte) : (s.setA v).Inv := h
theorem inv_setB (h : s.Inv) (v : Byte) : (s.setB v).Inv := h
theorem inv_setX (h : s.Inv) (v : Word) : (s.setX v).Inv := h
theorem inv_setY (h : s.Inv) (v : Word) : (s.setY v).Inv := h
theorem inv_setSp (h : s.Inv) (v : Word) : (s.setSp v).Inv := h
theorem inv_setPc (h : s.Inv) (v : Word) : (s.setPc v).Inv := h
theorem inv_setCcr (h : s.Inv) (v : Byte) : (s.setCcr v).Inv := h
theorem inv_setRun (h : s.Inv) (v : RunState) : (s.setRun v).Inv := h
theorem inv_setIrqInhibit (h : s.Inv) (v : Bool) : (s.setIrqInhibit v).Inv := h

theorem inv_memRead16 (h : s.Inv) (a : Word) : (memRead16 a s).2.Inv := inv_memRead (inv_memRead h a) (a + 1)

theorem inv_memWrite16 (h : s.Inv) (a v : Word) : (memWrite16 a v s).Inv := inv_memWrite (inv_memWrite h a _) (a + 1) _

theorem inv_operand8 (h : s.Inv) (m : Src8) : (operand8 m s).2.Inv := by
  cases m with
  | imm v => exact h
  | mem e => exact inv_memRead h _

theorem inv_operand16 (h : s.Inv) (m : Src16) : (operand16 m s).2.Inv := by
  cases m with
  | imm v => exact h
  | mem e => exact inv_memRead16 h _

theorem inv_push8 (h : s.Inv) (v : Byte) : (push8 v s).Inv := inv_setSp (inv_memWrite h s.sp v) _

theorem inv_push16 (h : s.Inv) (v : Word) : (push16 v s).Inv := inv_push8 (inv_push8 h (lo v)) (hi v)

theorem inv_pull8 (h : s.Inv) : (pull8 s).2.Inv := inv_memRead (inv_setSp h _) _

theorem inv_pull16 (h : s.Inv) : (pull16 s).2.Inv := inv_pull8 (inv_pull8 h)

theorem inv_pushFrame (h : s.Inv) (r : Word) : (pushFrame r s).Inv :=
  inv_push8 (inv_push8 (inv_push8 (inv_push16 (inv_push16 (inv_push16 h _) _) _) _) _) _

theorem inv_trapEntry (h : s.Inv) (src : TrapSource) (r : Word) (k : Bool) : (trapEntry src r k s).Inv := by
  unfold trapEntry
  refine inv_setRun (inv_setPc (inv_memRead16 (inv_setIrqInhibit (inv_setCcr ?_ _) _) _) _) _
  cases k with
  | false => exact h
  | true => exact inv_pushFrame h r

theorem inv_illegalOpcode (h : s.Inv) (pc0 : Word) : (illegalOpcode pc0 s).Inv := by
  unfold illegalOpcode
  split <;> exact inv_trapEntry h _ _ _

theorem inv_pullA (h : s.Inv) : (pullA s).Inv := inv_setA (inv_pull8 h) _
theorem inv_pullB (h : s.Inv) : (pullB s).Inv := inv_setB (inv_pull8 h) _
theorem inv_pullX (h : s.Inv) : (pullX s).Inv := inv_setX (inv_pull16 h) _
theorem inv_pullY (h : s.Inv) : (pullY s).Inv := inv_setY (inv_pull16 h) _
theorem inv_pullPc (h : s.Inv) : (pullPc s).Inv := inv_setPc (inv_pull16 h) _
theorem inv_pullCcr (h : s.Inv) : (pullCcr s).Inv := inv_setCcr (inv_pull8 h) _

theorem inv_returnFromInterrupt (h : s.Inv) : (returnFromInterrupt s).Inv :=
  inv_pullPc (inv_pullY (inv_pullX (inv_pullA (inv_pullB (inv_pullCcr h)))))

theorem inv_fetch8 (h : s.Inv) : (fetch8 s).2.Inv := inv_setPc (inv_memRead h s.pc) _

theorem inv_fetchN (n : Nat) (h : s.Inv) : (fetchN n s).2.Inv := by
  induction n generalizing s with
  | zero => exact h
  | succ n ih => exact ih (inv_fetch8 h)

theorem inv_fetchInstr (h : s.Inv) : (fetchInstr s).2.Inv := by
  unfold fetchInstr
  dsimp only
  split
  · exact inv_fetchN _ (inv_fetch8 h)
  · exact inv_fetchN _ (inv_fetch8 (inv_fetch8 h))

theorem inv_envTurn (h : s.Inv) : (envTurn s).Inv :=
  inv_congr (envTurn_mem s) (envTurn_tctl2 s) (envTurn_cfg s) h

theorem inv_resetSequence (h : s.Inv) (c : ResetCause) : (resetSequence c s).Inv := by
  have base : (resetBase c s).Inv := by
    refine ⟨(resetBase_mem c s).symm ▸ h.1, ?_⟩
    rw [resetBase_cfg]
    simp only [resetBase, resetIo, State.setResets_io, State.setIrqInhibit_io, State.setRun_io, State.setIo_io]
    exact and_and_not_self _ _
  rw [resetSequence_eq]
  exact inv_setPc (inv_memRead16 base _) _

end

end Sys2Proof.Machine

namespace Sys2Proof.Claims

open Sys2Proof.Machine

/-! ### The shared shapes: which registers and flags each writes -/

section
variable (s : State)

theorem writes_addTo (r : Acc) (v : Byte) (cin : Bool) :
    Writes [accReg r] [.h, .n, .z, .v, .c] s (addTo r v cin s) :=
  ((writes_setAcc s r _).trans (writes_setFlag _ .h _)).trans (writes_setNZVC _ _)

theorem writes_resultAcc (r : Acc) (f : Arith 8) : Writes [accReg r] [.n, .z, .v, .c] s (resultAcc r f s) :=
  (writes_setAcc s r _).trans (writes_setNZVC _ _)

theorem writes_subFrom (r : Acc) (v : Byte) (bin : Bool) : Writes [accReg r] [.n, .z, .v, .c] s (subFrom r v bin s) :=
  writes_resultAcc s r _

theorem writes_resultD (f : Arith 16) : Writes [.a, .b] [.n, .z, .v, .c] s (resultD f s) :=
  (writes_setD s _).trans (writes_setNZVC _ _)

theorem writes_compare8 (r : Acc) (v : Byte) : Writes [] [.n, .z, .v, .c] s (compare8 r v s) := writes_setNZVC s _

theorem writes_compare16 (r : Reg16) (v : Word) : Writes [] [.n, .z, .v, .c] s (compare16 r v s) := writes_setNZVC s _

theorem writes_putAcc (r : Acc) (v : Byte) : Writes [accReg r] [.n, .z, .v] s (putAcc r v s) :=
  (writes_setAcc s r v).trans (writes_setLogic _ v)

theorem writes_putReg (r : Reg16) (v : Word) : Writes (wideRegs r) [.n, .z, .v] s (putReg r v s) := by
  have h := (writes_setReg s r v).trans (writes_setLogic _ v)
  rwa [List.append_nil] at h

theorem writes_branchIf (k : Cond) (rr : Byte) : Writes [.pc] [] s (branchIf k rr s) := by
  unfold branchIf
  split
  · exact writes_setPc s _
  · exact (Writes.refl s).mono (by simp) (by simp)

theorem writes_divideFlags (z v c : Bool) : Writes [] [.z, .v, .c] s (divideFlags z v c s) :=
  ((writes_setFlag s .z z).trans (writes_setFlag _ .v v)).trans (writes_setFlag _ .c c)

theorem writes_divideError (v c : Bool) : Writes [.x, .a, .b] [.z, .v, .c] s (divideError v c s) :=
  (((writes_setDraws s _).trans (writes_setX _ _)).trans (writes_setD _ _)).trans (writes_divideFlags _ _ _ _)

/-- A byte read, changed and written back, with its four flags. -/
theorem rewrites_modifyByte (e : Ea) (f : Byte → Bool → Arith 8) :
    Rewrites (eaAddr e s) (f (memRead (eaAddr e s) s).1 (s.flag .c)).r s (modifyByte e f s) ∧
      Keeps [] [.n, .z, .v, .c] s (modifyByte e f s) := (writes_setNZVC _ _).rewrites

/-- A byte read, changed and written back, with N, Z and V = 0. -/
theorem rewrites_modifyBits (e : Ea) (f : Byte → Byte) :
    Rewrites (eaAddr e s) (f (memRead (eaAddr e s) s).1) s (modifyBits e f s) ∧
      Keeps [] [.n, .z, .v] s (modifyBits e f s) := (writes_setLogic _ _).rewrites

theorem keeps_storeAcc (r : Acc) (e : Ea) : Keeps [] [.n, .z, .v] s (storeAcc r e s) :=
  (keeps_memWrite s _ _).trans (writes_setLogic _ _).1

theorem keeps_storeReg (r : Reg16) (e : Ea) : Keeps [] [.n, .z, .v] s (storeReg r e s) :=
  (keeps_memWrite16 s _ _).trans (writes_setLogic _ _).1

theorem keeps_callTo (target : Word) : Keeps [.sp, .pc] [] s (callTo target s) :=
  (keeps_push16 s _).trans (writes_setPc _ _).1

theorem keeps_pullA : Keeps [.sp, .a] [] s (pullA s) := (keeps_pull8 s).trans (writes_setA _ _).1
theorem keeps_pullB : Keeps [.sp, .b] [] s (pullB s) := (keeps_pull8 s).trans (writes_setB _ _).1
theorem keeps_pullX : Keeps [.sp, .x] [] s (pullX s) := (keeps_pull16 s).trans (writes_setX _ _).1
theorem keeps_pullY : Keeps [.sp, .y] [] s (pullY s) := (keeps_pull16 s).trans (writes_setY _ _).1
theorem keeps_pullPc : Keeps [.sp, .pc] [] s (pullPc s) := (keeps_pull16 s).trans (writes_setPc _ _).1

theorem keeps_pullCcr : Keeps [.sp] [.s, .x, .h, .i, .n, .z, .v, .c] s (pullCcr s) :=
  (keeps_pull8 s).trans (writes_setCcr _ (F := [.s, .x, .h, .i, .n, .z, .v, .c]) fun f hf => by cases f <;> simp at hf).1

theorem keeps_returnFromInterrupt :
    Keeps [.a, .b, .x, .y, .sp, .pc] [.s, .x, .h, .i, .n, .z, .v, .c] s (returnFromInterrupt s) := by
  have bytes := ((keeps_pullCcr s).trans (keeps_pullB _)).trans (keeps_pullA _)
  have words := ((bytes.trans (keeps_pullX _)).trans (keeps_pullY _)).trans (keeps_pullPc _)
  exact words.mono (by simp) (by simp)

end

end Sys2Proof.Claims
end

section
/-! CERTIFICATE. What every instruction does: it answers a next state, keeps the invariant, and writes no flag but those its
rule names. What every step does, as one of five cases. From these O7, O8, O58 and O59. -/

namespace Sys2Proof.Machine

open Sys2Proof.Claims Host

/-! ### Every instruction -/

/-- All the registers of the statements. -/
def allRegs : List CpuReg := [.a, .b, .x, .y, .sp, .pc]

theorem mem_allRegs (r : CpuReg) : r ∈ allRegs := by cases r <;> decide

/-- The flags an instruction may write: S and X by TAP and RTI only, H by the byte additions too (10_state.md R28-R30). -/
def mayWrite : Instr → List Flag
  | .aba | .adca _ | .adcb _ | .adda _ | .addb _ => [.h, .n, .z, .v, .c]
  | .tap | .rti => [.s, .x, .h, .i, .n, .z, .v, .c]
  | _ => [.i, .n, .z, .v, .c]

theorem not_mem_mayWrite {i : Instr} (htap : i ≠ .tap) (hrti : i ≠ .rti) : .s ∉ mayWrite i ∧ .x ∉ mayWrite i := by
  unfold mayWrite
  split <;> simp_all

theorem half_not_mem_mayWrite {i : Instr} (haba : i ≠ .aba) (hadda : ∀ m, i ≠ .adda m) (haddb : ∀ m, i ≠ .addb m)
    (hadca : ∀ m, i ≠ .adca m) (hadcb : ∀ m, i ≠ .adcb m) (htap : i ≠ .tap) (hrti : i ≠ .rti) :
    .h ∉ mayWrite i := by
  unfold mayWrite
  split <;> simp_all

/-- What an operation keeps that is no entry and moves no run state: the flags not listed, the run state, the inhibit, the
invariant. -/
def Tame (F : List Flag) (s t : State) : Prop := Keeps allRegs F s t ∧ (s.Inv → t.Inv)

section
variable {R : List CpuReg} {F F' : List Flag} {s t u : State}

theorem tame_of_keeps (h : Keeps R F s t) (hinv : s.Inv → t.Inv) : Tame F s t :=
  ⟨h.mono (fun r _ => mem_allRegs r) fun _ hf => hf, hinv⟩

theorem tame_of_writes (h : Writes R F s t) : Tame F s t := by
  obtain ⟨hkeeps, hmem, hio, -⟩ := h
  obtain ⟨⟨-, -, -, -, hcfg, -⟩, -⟩ := id hkeeps
  exact tame_of_keeps hkeeps (inv_congr hmem (congrArg IoRegs.tctl2 hio) hcfg)

theorem Tame.trans (h : Tame F s t) (k : Tame F' t u) : Tame (F ++ F') s u :=
  tame_of_keeps (h.1.trans k.1) (k.2 ∘ h.2)

/-- Registers and flags written after an 8-bit operand is read. -/
theorem tame_reads8 {m : Src8} (h : Writes R F (operand8 m s).2 t) : Tame F s t :=
  Tame.trans (tame_of_keeps (keeps_operand8 s m) fun hs => inv_operand8 hs m) (tame_of_writes h)

theorem tame_reads16 {m : Src16} (h : Writes R F (operand16 m s).2 t) : Tame F s t :=
  Tame.trans (tame_of_keeps (keeps_operand16 s m) fun hs => inv_operand16 hs m) (tame_of_writes h)

theorem tame_readsByte {a : Word} (h : Writes R F (memRead a s).2 t) : Tame F s t :=
  Tame.trans (tame_of_keeps (keeps_memRead s a) fun hs => inv_memRead hs a) (tame_of_writes h)

theorem tame_puts {a : Word} {v : Byte} (h : Writes R F (memWrite a v s) t) : Tame F s t :=
  Tame.trans (tame_of_keeps (keeps_memWrite s a v) fun hs => inv_memWrite hs a v) (tame_of_writes h)

theorem tame_puts16 {a v : Word} (h : Writes R F (memWrite16 a v s) t) : Tame F s t :=
  Tame.trans (tame_of_keeps (keeps_memWrite16 s a v) fun hs => inv_memWrite16 hs a v) (tame_of_writes h)

theorem tame_rewrites {a : Word} {v : Byte} (h : Writes R F (memWrite a v (memRead a s).2) t) : Tame F s t :=
  Tame.trans (tame_of_keeps (keeps_memRead s a) fun hs => inv_memRead hs a) (tame_puts h)

end

/-- Going somewhere or not writes PC at most. -/
theorem writes_setPc_ite (s : State) (p : Prop) [Decidable p] (v : Word) :
    Writes [.pc] [] s (if p then s.setPc v else s) := by
  split
  · exact writes_setPc s v
  · exact (Writes.refl s).mono (by simp) (by simp)

theorem writes_quotient (s : State) (q r : Word) :
    Writes [.x, .a, .b] [.z, .v, .c] s (divideFlags (flagZ q) false false ((s.setX q).setD r)) :=
  ((writes_setX s q).trans (writes_setD _ r)).trans (writes_divideFlags _ _ _ _)

theorem exec_idiv (s : State) : ∃ t, exec .idiv s = .next t ∧ Writes [.x, .a, .b] [.z, .v, .c] s t := by
  simp only [exec, execIdiv]
  split
  · exact ⟨_, rfl, writes_divideError s _ _⟩
  · exact ⟨_, rfl, writes_quotient s _ _⟩

theorem exec_fdiv (s : State) : ∃ t, exec .fdiv s = .next t ∧ Writes [.x, .a, .b] [.z, .v, .c] s t := by
  simp only [exec, execFdiv]
  split
  · exact ⟨_, rfl, writes_divideError s _ _⟩
  · split
    · exact ⟨_, rfl, writes_divideError s _ _⟩
    · exact ⟨_, rfl, writes_quotient s _ _⟩

/-- What an instruction keeps, whichever it is. -/
structure ExecFrame (i : Instr) (s t : State) : Prop where
  data : KeepsData allRegs (mayWrite i) s t
  running : s.run = .running → i ≠ .wai → i ≠ .stop → i ≠ .test → t.run = .running
  inv : s.Inv → t.Inv

theorem Tame.execFrame {i : Instr} {F : List Flag} {s t : State} (h : Tame F s t) (hF : ∀ f ∈ F, f ∈ mayWrite i) :
    ExecFrame i s t where
  data := h.1.1.mono (fun _ hr => hr) hF
  running := fun hrun _ _ _ => h.1.2.1.trans hrun
  inv := h.2

theorem keepsData_setRun (s : State) (r : RunState) : KeepsData [] [] s (s.setRun r) :=
  ⟨fun r _ => by cases r <;> rfl, fun _ _ => rfl, rfl, rfl, rfl, rfl⟩

theorem keepsData_setIrqInhibit (s : State) (v : Bool) : KeepsData [] [] s (s.setIrqInhibit v) :=
  ⟨fun r _ => by cases r <;> rfl, fun _ _ => rfl, rfl, rfl, rfl, rfl⟩

theorem keepsData_illegalOpcode (s : State) (pc0 : Word) : KeepsData [.sp, .pc] [.i] s (illegalOpcode pc0 s) := by
  unfold illegalOpcode
  split <;> exact keepsData_trapEntry s .ill _ true (by simp) nofun

theorem exec_frame (i : Instr) (s : State) : ∃ t, exec i s = .next t ∧ ExecFrame i s t := by
  cases i
  case aba => exact ⟨_, rfl, (tame_of_writes (writes_addTo s .a s.b false)).execFrame (by simp [mayWrite])⟩
  case adca | adcb | adda | addb => exact ⟨_, rfl, (tame_reads8 (writes_addTo _ _ _ _)).execFrame (by simp [mayWrite])⟩
  case suba | subb | sbca | sbcb =>
    exact ⟨_, rfl, (tame_reads8 (writes_subFrom _ _ _ _)).execFrame (by simp [mayWrite])⟩
  case sba => exact ⟨_, rfl, (tame_of_writes (writes_subFrom s .a s.b false)).execFrame (by simp [mayWrite])⟩
  case cmpa | cmpb => exact ⟨_, rfl, (tame_reads8 (writes_compare8 _ _ _)).execFrame (by simp [mayWrite])⟩
  case cba => exact ⟨_, rfl, (tame_of_writes (writes_compare8 s .a s.b)).execFrame (by simp [mayWrite])⟩
  case addd | subd => exact ⟨_, rfl, (tame_reads16 (writes_resultD _ _)).execFrame (by simp [mayWrite])⟩
  case cpd | cpx | cpy => exact ⟨_, rfl, (tame_reads16 (writes_compare16 _ _ _)).execFrame (by simp [mayWrite])⟩
  case anda | andb | eora | eorb | oraa | orab | ldaa | ldab =>
    exact ⟨_, rfl, (tame_reads8 (writes_putAcc _ _ _)).execFrame (by simp [mayWrite])⟩
  case bita | bitb => exact ⟨_, rfl, (tame_reads8 (writes_setLogic _ _)).execFrame (by simp [mayWrite])⟩
  case tab | tba => exact ⟨_, rfl, (tame_of_writes (writes_putAcc s _ _)).execFrame (by simp [mayWrite])⟩
  case ldd | lds | ldx | ldy => exact ⟨_, rfl, (tame_reads16 (writes_putReg _ _ _)).execFrame (by simp [mayWrite])⟩
  case staa | stab => exact ⟨_, rfl, (tame_puts (writes_setLogic _ _)).execFrame (by simp [mayWrite])⟩
  case std | sts | stx | sty => exact ⟨_, rfl, (tame_puts16 (writes_setLogic _ _)).execFrame (by simp [mayWrite])⟩
  case asla | aslb | asra | asrb | lsla | lslb | lsra | lsrb | rola | rolb | rora | rorb | nega | negb | coma | comb |
      clra | clrb | inca | incb | deca | decb =>
    exact ⟨_, rfl, (tame_of_writes (writes_resultAcc s _ _)).execFrame (by simp [mayWrite])⟩
  case asld | lsld | lsrd => exact ⟨_, rfl, (tame_of_writes (writes_resultD s _)).execFrame (by simp [mayWrite])⟩
  case asl | asr | lsl | lsr | rol | ror | neg | com | clr | inc | dec =>
    exact ⟨_, rfl, (tame_rewrites (writes_setNZVC _ _)).execFrame (by simp [mayWrite])⟩
  case bclr | bset => exact ⟨_, rfl, (tame_rewrites (writes_setLogic _ _)).execFrame (by simp [mayWrite])⟩
  case tst => exact ⟨_, rfl, (tame_readsByte (writes_setNZVC _ _)).execFrame (by simp [mayWrite])⟩
  case tsta | tstb => exact ⟨_, rfl, (tame_of_writes (writes_setNZVC s _)).execFrame (by simp [mayWrite])⟩
  case brclr | brset => exact ⟨_, rfl, (tame_readsByte (writes_setPc_ite _ _ _)).execFrame (by simp)⟩
  case bcc | bcs | beq | bge | bgt | bhi | bhs | ble | blo | bls | blt | bmi | bne | bpl | bra | brn | bvc | bvs =>
    exact ⟨_, rfl, (tame_of_writes (writes_branchIf s _ _)).execFrame (by simp)⟩
  case jmp => exact ⟨_, rfl, (tame_of_writes (writes_setPc s _)).execFrame (by simp)⟩
  case jsr | bsr => exact ⟨_, rfl, (tame_of_keeps (keeps_callTo s _) fun h => inv_setPc (inv_push16 h _) _).execFrame (by simp)⟩
  case rts => exact ⟨_, rfl, (tame_of_keeps (keeps_pullPc s) inv_pullPc).execFrame (by simp)⟩
  case psha | pshb => exact ⟨_, rfl, (tame_of_keeps (keeps_push8 s _) fun h => inv_push8 h _).execFrame (by simp)⟩
  case pshx | pshy => exact ⟨_, rfl, (tame_of_keeps (keeps_push16 s _) fun h => inv_push16 h _).execFrame (by simp)⟩
  case pula => exact ⟨_, rfl, (tame_of_keeps (keeps_pullA s) inv_pullA).execFrame (by simp)⟩
  case pulb => exact ⟨_, rfl, (tame_of_keeps (keeps_pullB s) inv_pullB).execFrame (by simp)⟩
  case pulx => exact ⟨_, rfl, (tame_of_keeps (keeps_pullX s) inv_pullX).execFrame (by simp)⟩
  case puly => exact ⟨_, rfl, (tame_of_keeps (keeps_pullY s) inv_pullY).execFrame (by simp)⟩
  case abx | tsx => exact ⟨_, rfl, (tame_of_writes (writes_setX s _)).execFrame (by simp)⟩
  case aby | tsy => exact ⟨_, rfl, (tame_of_writes (writes_setY s _)).execFrame (by simp)⟩
  case ins | des | txs | tys => exact ⟨_, rfl, (tame_of_writes (writes_setSp s _)).execFrame (by simp)⟩
  case inx | dex =>
    exact ⟨_, rfl, (tame_of_writes ((writes_setX s _).trans (writes_setFlag _ .z _))).execFrame (by simp [mayWrite])⟩
  case iny | dey =>
    exact ⟨_, rfl, (tame_of_writes ((writes_setY s _).trans (writes_setFlag _ .z _))).execFrame (by simp [mayWrite])⟩
  case tpa => exact ⟨_, rfl, (tame_of_writes (writes_setA s _)).execFrame (by simp)⟩
  case xgdx => exact ⟨_, rfl, (tame_of_writes ((writes_setX s _).trans (writes_setD _ _))).execFrame (by simp)⟩
  case xgdy => exact ⟨_, rfl, (tame_of_writes ((writes_setY s _).trans (writes_setD _ _))).execFrame (by simp)⟩
  case clc | sec | clv | sev | sei =>
    exact ⟨_, rfl, (tame_of_writes (writes_setFlag s _ _)).execFrame (by simp [mayWrite])⟩
  case nop => exact ⟨_, rfl, (tame_of_writes (Writes.refl s)).execFrame (by simp)⟩
  case mul =>
    exact ⟨_, rfl, (tame_of_writes ((writes_setD s _).trans (writes_setFlag _ .c _))).execFrame (by simp [mayWrite])⟩
  case daa =>
    exact ⟨_, rfl, (tame_of_writes (((writes_setDraws s (s.draws + 1)).trans (writes_setA _ _)).trans
      (writes_setNZVC _ _))).execFrame (by simp [mayWrite])⟩
  case idiv =>
    obtain ⟨t, hexec, frame⟩ := exec_idiv s
    exact ⟨t, hexec, (tame_of_writes frame).execFrame (by simp [mayWrite])⟩
  case fdiv =>
    obtain ⟨t, hexec, frame⟩ := exec_fdiv s
    exact ⟨t, hexec, (tame_of_writes frame).execFrame (by simp [mayWrite])⟩
  case rti =>
    exact ⟨_, rfl, (tame_of_keeps (keeps_returnFromInterrupt s) inv_returnFromInterrupt).execFrame (by simp [mayWrite])⟩
  case cli =>
    refine ⟨_, rfl, ?_, fun hrun _ _ _ => hrun, fun h => h⟩
    exact ((keepsData_setIrqInhibit s _).trans (writes_setFlag _ .i false).1.1).mono (by simp) (by simp [mayWrite])
  case tap =>
    refine ⟨_, rfl, ?_, fun hrun _ _ _ => hrun, fun h => h⟩
    have ccr := writes_setCcr s (F := mayWrite .tap) (v := ccrLoad s.ccr s.a) fun f hf => by
      cases f <;> simp [mayWrite] at hf
    exact (ccr.1.1.trans (keepsData_setIrqInhibit _ _)).mono (by simp) (by simp)
  case stop =>
    refine ⟨_, rfl, ?_, fun _ _ hstop _ => absurd rfl hstop, fun h => ?_⟩
    · split
      · exact (Keeps.refl s).1.mono (by simp) (by simp)
      · exact (keepsData_setRun s _).mono (by simp) (by simp)
    · split <;> exact h
  case wai =>
    refine ⟨_, rfl, ?_, fun _ hwai _ _ => absurd rfl hwai, fun h => inv_setRun (inv_pushFrame h _) _⟩
    exact ((keeps_pushFrame s s.pc).1.trans (keepsData_setRun _ _)).mono (by simp [allRegs]) (by simp)
  case swi =>
    refine ⟨_, rfl, ?_, fun _ _ _ _ => trapEntry_run _ _ _ _, fun h => inv_trapEntry h _ _ _⟩
    exact (keepsData_trapEntry s .swi s.pc true (F := [.i]) (by simp) nofun).mono (by simp [allRegs]) (by simp [mayWrite])
  case test =>
    simp only [exec, execTest]
    split
    · exact ⟨_, rfl, (keepsData_setRun s _).mono (by simp) (by simp), fun _ _ _ htest => absurd rfl htest, fun h => h⟩
    · exact ⟨_, rfl, (keepsData_illegalOpcode s _).mono (by simp [allRegs]) (by simp [mayWrite]),
        fun _ _ _ htest => absurd rfl htest, fun h => inv_illegalOpcode h _⟩

theorem exec_frame_of_next {i : Instr} {s t : State} (h : exec i s = .next t) : ExecFrame i s t := by
  obtain ⟨u, hu, frame⟩ := exec_frame i s
  rw [hu] at h
  cases h
  exact frame

/-! ### X under TAP and RTI -/

theorem execTap_x (s : State) : ∃ t, exec .tap s = .next t ∧ t.flag .x = (s.flag .x && s.a.getLsbD 6) :=
  ⟨_, rfl, ccrGet_ccrLoad s.ccr s.a .x⟩

theorem returnFromInterrupt_x (s : State) :
    (returnFromInterrupt s).flag .x = (s.flag .x && (memRead (s.sp + 1) s).1.getLsbD 6) := by
  rw [State.flag, returnFromInterrupt_ccr, ccrGet_ccrLoad, pull8_eq]
  rfl

/-- No instruction sets X (10_state.md R29). -/
theorem exec_x_of_clear {i : Instr} {s t : State} (h : exec i s = .next t) (hx : s.flag .x = false) :
    t.flag .x = false := by
  by_cases htap : i = .tap
  · subst htap
    obtain ⟨u, hu, hux⟩ := execTap_x s
    rw [hu] at h
    cases h
    rw [hux, hx, Bool.false_and]
  by_cases hrti : i = .rti
  · subst hrti
    rw [← Outcome.next.inj h, returnFromInterrupt_x, hx, Bool.false_and]
  · rw [(exec_frame_of_next h).data.2.1 .x (not_mem_mayWrite htap hrti).2, hx]

/-! ### Which request is accepted -/

/-- XIRQ is accepted exactly while it is requested and X = 0, whatever the inhibit (R453). -/
theorem select_eq_xirq_iff (s : State) : select s = some .xirq ↔ Line.xirq ∈ s.lines ∧ s.flag .x = false := by
  unfold select xirqRequested
  by_cases hreq : Line.xirq ∈ s.lines <;> cases s.flag .x <;> cases s.flag .i || s.irqInhibit <;> simp [hreq]

/-- The choice of a waiting machine is that of a running one with the inhibit clear. -/
theorem selectUninhibited_eq_select (s : State) : selectUninhibited s = select { s with irqInhibit := false } := by
  simp only [selectUninhibited, select, Bool.or_false]
  rfl

theorem selectUninhibited_eq_xirq_iff (s : State) :
    selectUninhibited s = some .xirq ↔ Line.xirq ∈ s.lines ∧ s.flag .x = false := by
  rw [selectUninhibited_eq_select, select_eq_xirq_iff]
  rfl

/-! ### Every step -/

/-- What a step does after the environment's turn has left `u`: a reset, a run state and nothing else, an entry (XIRQ's only
when it is requested), an instruction on the state after its fetch, or the illegal opcode trap. -/
inductive StepCase (u : State) : State → Prop where
  | reset {c : ResetCause} (h : topReset u = some c) : StepCase u (resetSequence c u)
  | rest (r : RunState) : StepCase u (u.setRun r)
  | entry (src : TrapSource) (stack : Bool) (r : RunState) (h : src = .xirq → Line.xirq ∈ u.lines) :
      StepCase u (trapEntry src u.pc stack (u.setRun r))
  | instr {i : Instr} {t : State} (h : exec i (fetchInstr (u.setIrqInhibit false)).2 = .next t) : StepCase u t
  | illegal : StepCase u (illegalOpcode u.pc (fetchInstr (u.setIrqInhibit false)).2)

theorem runStep_cases (u : State) : ∃ t, runStep u = .next t ∧ StepCase u t := by
  unfold runStep
  split
  · next src hsel =>
    exact ⟨_, rfl, .entry src true u.run fun e => ((select_eq_xirq_iff u).1 (e ▸ hsel)).1⟩
  · unfold runInstr
    dsimp only
    split
    · next i n _ =>
      obtain ⟨t, ht, -⟩ := exec_frame i (fetchInstr (u.setIrqInhibit false)).2
      exact ⟨t, ht, .instr ht⟩
    · exact ⟨_, rfl, .illegal⟩

theorem waitStep_cases (u : State) : StepCase u (waitStep u) := by
  unfold waitStep
  split
  · next src hsel =>
    exact .entry src false u.run fun e => ((selectUninhibited_eq_xirq_iff u).1 (e ▸ hsel)).1
  · exact .rest u.run

theorem stopStep_cases (u : State) : StepCase u (stopStep u) := by
  unfold stopStep xirqRequested
  split
  · next hreq =>
    split
    · exact .rest .running
    · exact .entry .xirq true .running fun _ => of_decide_eq_true hreq
  · split
    · exact .entry (.maskable .irq) true .running nofun
    · exact .rest u.run

theorem step_cases (s : State) : ∃ t, step s = .next t ∧ StepCase (envTurn s) t := by
  unfold step cpuStep
  split
  · next c htop => exact ⟨_, rfl, .reset htop⟩
  · split
    · exact ⟨_, rfl, .rest (envTurn s).run⟩
    · exact ⟨_, rfl, waitStep_cases _⟩
    · exact ⟨_, rfl, stopStep_cases _⟩
    · exact runStep_cases _

theorem step_cases_of_next {s t : State} (h : step s = .next t) : StepCase (envTurn s) t := by
  obtain ⟨u, hu, hcase⟩ := step_cases s
  rw [hu] at h
  cases h
  exact hcase

theorem StepCase.inv {u t : State} (h : StepCase u t) (hu : u.Inv) : t.Inv := by
  have fetched := inv_fetchInstr (inv_setIrqInhibit hu false)
  cases h with
  | reset => exact inv_resetSequence hu _
  | rest => exact inv_setRun hu _
  | entry => exact inv_trapEntry (inv_setRun hu _) _ _ _
  | instr hexec => exact (exec_frame_of_next hexec).inv fetched
  | illegal => exact inv_illegalOpcode fetched _

/-- Settles O8, by the five cases of a step after the environment's turn. -/
theorem stepKeepsInvariant : Obligations.StepKeepsInvariant := by
  unfold Obligations.StepKeepsInvariant
  exact fun s t hs hstep => (step_cases_of_next hstep).inv (inv_envTurn hs)

/-- Settles O7. -/
theorem everyStepAnswersNext : Obligations.EveryStepAnswersNext := by
  unfold Obligations.EveryStepAnswersNext
  intro s
  obtain ⟨t, hstep, -⟩ := step_cases s
  exact ⟨t, hstep⟩

/-- Settles O9. -/
theorem resetMeetsInvariant : Obligations.ResetMeetsInvariant := by
  unfold Obligations.ResetMeetsInvariant
  exact ⟨Memory.wf_nil, by decide⟩

/-! ### X and the named writers -/

theorem keeps_fetch8 (s : State) : Keeps [.pc] [] s (fetch8 s).2 := (keeps_memRead s s.pc).trans (writes_setPc _ _).1

theorem keeps_fetchN (n : Nat) (s : State) : Keeps [.pc] [] s (fetchN n s).2 := by
  induction n generalizing s with
  | zero => exact (Keeps.refl s).mono (by simp) (by simp)
  | succ n ih => exact ((keeps_fetch8 s).trans (ih _)).mono (by simp) (by simp)

theorem keeps_fetchInstr (s : State) : Keeps [.pc] [] s (fetchInstr s).2 := by
  unfold fetchInstr
  dsimp only
  split
  · exact ((keeps_fetch8 s).trans (keeps_fetchN _ _)).mono (by simp) (by simp)
  · exact (((keeps_fetch8 s).trans (keeps_fetch8 _)).trans (keeps_fetchN _ _)).mono (by simp) (by simp)

/-- A step from X = 0 leaves X = 0 unless it performs a reset or enters XIRQ. -/
theorem StepCase.x_set {u t : State} (h : StepCase u t) (hu : u.flag .x = false) (ht : t.flag .x = true) :
    (∃ c, topReset u = some c) ∨ Line.xirq ∈ u.lines := by
  have fetched : (fetchInstr (u.setIrqInhibit false)).2.flag .x = false :=
    ((keeps_fetchInstr _).1.2.1 .x (by simp)).trans hu
  cases h with
  | reset htop => exact .inl ⟨_, htop⟩
  | rest => rw [State.flag_setRun, hu] at ht; cases ht
  | entry src _ _ hreq =>
    by_cases hsrc : src = .xirq
    · exact .inr (hreq hsrc)
    · simp [hsrc, hu] at ht
  | instr hexec => rw [exec_x_of_clear hexec fetched] at ht; cases ht
  | illegal => rw [(keepsData_illegalOpcode _ _).2.1 .x (by simp), fetched] at ht; cases ht

/-- Settles O58, by the frame of every instruction and the five cases of a step. -/
theorem xMaskIsOneWay : Obligations.XMaskIsOneWay := by
  unfold Obligations.XMaskIsOneWay
  refine ⟨fun i s t => exec_x_of_clear, fun s t hstep hs ht => ?step, fun s hx => ?masked, fun s t h => ?tap,
    fun s t h => ?rti⟩
  case step =>
    exact (step_cases_of_next hstep).x_set (by rw [State.flag, envTurn_ccr]; exact hs) ht
  case masked =>
    rw [Ne, Ne, select_eq_xirq_iff, selectUninhibited_eq_xirq_iff, hx]
    exact ⟨nofun, nofun⟩
  case tap =>
    obtain ⟨u, hu, hux⟩ := execTap_x s
    rw [hu] at h
    cases h
    exact hux
  case rti =>
    rw [← Outcome.next.inj h, returnFromInterrupt_x]

/-- Settles O59, by the frame of every instruction. -/
theorem onlyTheNamedWriters : Obligations.OnlyTheNamedWriters := by
  unfold Obligations.OnlyTheNamedWriters
  intro i s t h
  obtain ⟨⟨-, hflags, hlines, hresets, hcfg, -⟩, hrunning, -⟩ := exec_frame_of_next h
  exact ⟨fun htap hrti => hflags .s (not_mem_mayWrite htap hrti).1,
    fun haba hadda haddb hadca hadcb htap hrti =>
      hflags .h (half_not_mem_mayWrite haba hadda haddb hadca hadcb htap hrti),
    hrunning, hcfg, hlines, hresets⟩

end Sys2Proof.Machine
end

section
/-! CERTIFICATE. Additions, subtractions, comparisons and logic: what `addFlags` and `subFlags` leave, said as the statements
say it, and from it one lemma per shared shape; then O20 to O25. -/

namespace Sys2Proof.Claims

open Sys2Proof.Machine Host

/-! ### Flags after the three flag writes -/

section
variable {w : Nat} (u : State)

theorem logicFlags_setLogic (r : BitVec w) : LogicFlags r (u.setLogic r) :=
  ⟨⟨State.flag_setLogic u r .n, State.flag_setLogic u r .z⟩, State.flag_setLogic u r .v⟩

/-- N and Z of an arithmetic result whose N and Z are those of the result. -/
theorem nzof_setNZVC {f : Arith w} (hn : f.n = flagN f.r) (hz : f.z = flagZ f.r) : NZof f.r (u.setNZVC f) :=
  ⟨(State.flag_setNZVC u f .n).trans hn, (State.flag_setNZVC u f .z).trans hz⟩

theorem logicFlags_setNZVC {f : Arith w} (hn : f.n = flagN f.r) (hz : f.z = flagZ f.r) (hv : f.v = false) :
    LogicFlags f.r (u.setNZVC f) := ⟨nzof_setNZVC u hn hz, (State.flag_setNZVC u f .v).trans hv⟩

end

/-! ### Sums and differences -/

theorem isSum_setNZVC {w : Nat} (a m : BitVec (w + 1)) (cin : Bool) (u : State) :
    IsSum a m cin (addFlags a m cin).r (u.setNZVC (addFlags a m cin)) :=
  ⟨addFlags_r_toNat a m cin, nzof_setNZVC u rfl rfl, State.flag_setNZVC u _ .c,
    (State.flag_setNZVC u _ .v).trans (addFlags_v_eq_signed_overflow a m cin)⟩

section
variable {w : Nat} (a m : BitVec w) (bin : Bool)

theorem subFlags_r_toNat :
    ((subFlags a m bin).r.toNat : Int) = ((a.toNat : Int) - m.toNat - bin.toNat) % 2 ^ w := by
  have hpos : (0 : Int) < ((2 ^ w : Nat) : Int) := by positivity
  rw [subFlags, BitVec.toNat_ofInt, Int.toNat_of_nonneg (Int.emod_nonneg _ hpos.ne')]
  norm_cast

theorem subFlags_c : (subFlags a m bin).c = decide (a.toNat < m.toNat + bin.toNat) :=
  decide_eq_decide.mpr (by omega)

/-- The difference wraps at most once. -/
theorem subFlags_r_toNat_cond : ((subFlags a m bin).r.toNat : Int) =
    if (subFlags a m bin).c then (a.toNat : Int) - m.toNat - bin.toNat + 2 ^ w
    else (a.toNat : Int) - m.toNat - bin.toNat := by
  have ha := a.isLt
  have hm := m.isLt
  have hb := bin.toNat_le
  have hpow : (2 : Int) ^ w = (2 ^ w : Nat) := by norm_cast
  rw [subFlags_r_toNat, subFlags_c, hpow]
  simp only [decide_eq_true_eq]
  split
  · rw [← Int.add_emod_right, Int.emod_eq_of_lt (by omega) (by omega)]
  · exact Int.emod_eq_of_lt (by omega) (by omega)

end

/-- The signs' rule for V of a difference is signed overflow. -/
theorem subFlags_v_eq_signed_overflow {w : Nat} (a m : BitVec (w + 1)) (bin : Bool) :
    (subFlags a m bin).v =
      decide (a.toInt - m.toInt - bin.toNat < -2 ^ w ∨ 2 ^ w ≤ a.toInt - m.toInt - bin.toNat) := by
  have ha := a.isLt
  have hm := m.isLt
  have hb := bin.toNat_le
  have hr := subFlags_r_toNat_cond a m bin
  have hpow : (2 : Int) ^ w = (2 ^ w : Nat) := by norm_cast
  have hv : (subFlags a m bin).v = (a.msb != m.msb && (subFlags a m bin).r.msb != a.msb) := rfl
  simp only [subFlags_c, decide_eq_true_eq, pow_succ, hpow] at ha hm hr
  simp only [hv, BitVec.msb_eq_decide, BitVec.toInt_eq_toNat_cond, hpow, Nat.add_sub_cancel, pow_succ]
  generalize 2 ^ w = half at *
  by_cases hsigns : half ≤ a.toNat ↔ half ≤ m.toNat
  · have hsame : (decide (half ≤ a.toNat) != decide (half ≤ m.toNat)) = false :=
      bne_eq_false_iff_eq.mpr (decide_eq_decide.mpr hsigns)
    rw [hsame, Bool.false_and, eq_comm, decide_eq_false_iff_not]
    split <;> split <;> omega
  · have hdiffer : (decide (half ≤ a.toNat) != decide (half ≤ m.toNat)) = true :=
      bne_iff_ne.mpr (mt decide_eq_decide.mp hsigns)
    rw [hdiffer, Bool.true_and, Bool.eq_iff_iff]
    simp only [bne_iff_ne, ne_eq, decide_eq_decide, decide_eq_true_eq]
    split at hr <;> omega

theorem isDifference_setNZVC {w : Nat} (a m : BitVec (w + 1)) (bin : Bool) (u : State) :
    IsDifference a m bin (subFlags a m bin).r (u.setNZVC (subFlags a m bin)) :=
  ⟨subFlags_r_toNat a m bin, nzof_setNZVC u rfl rfl, (State.flag_setNZVC u _ .c).trans (subFlags_c a m bin),
    (State.flag_setNZVC u _ .v).trans (subFlags_v_eq_signed_overflow a m bin)⟩

/-! ### Registers seen through an operand's read -/

section
variable (s : State)

theorem operand8_acc (m : Src8) (r : Acc) : (operand8 m s).2.acc r = s.acc r := by
  cases r <;> simp [State.acc]

theorem operand16_reg (m : Src16) (r : Reg16) : (operand16 m s).2.reg r = s.reg r := by
  cases r <;> simp [State.reg, State.d]

theorem reg_putReg (r : Reg16) (v : Word) : (putReg r v s).reg r = v := by
  cases r with
  | d => exact cat16_hi_lo v
  | x | y | sp => rfl

theorem acc_putAcc (r : Acc) (v : Byte) : (putAcc r v s).acc r = v := by cases r <;> rfl

theorem acc_resultAcc (r : Acc) (f : Arith 8) : (resultAcc r f s).acc r = f.r := by cases r <;> rfl

theorem d_resultD (f : Arith 16) : (resultD f s).d = f.r := cat16_hi_lo f.r

theorem acc_addTo (r : Acc) (v : Byte) (cin : Bool) : (addTo r v cin s).acc r = (addFlags (s.acc r) v cin).r := by
  cases r <;> rfl

/-! ### Additions -/

theorem isSum_addTo (r : Acc) (v : Byte) (cin : Bool) :
    IsSum (s.acc r) v cin ((addTo r v cin s).acc r) (addTo r v cin s) := by
  rw [acc_addTo]
  exact isSum_setNZVC (w := 7) _ _ _ _

theorem isHalf_addTo (r : Acc) (v : Byte) (cin : Bool) : IsHalf (s.acc r) v cin (addTo r v cin s) :=
  (State.flag_setNZVC _ _ .h).trans (State.flag_setFlag _ .h .h _)

variable {s} {i : Instr} {m : Src8} {q : Src16}

/-- An instruction that adds an 8-bit operand to an accumulator. -/
theorem adds_operand {r : Acc} {cin : Bool} (hexec : exec i s = .next (addTo r (operand8 m s).1 cin (operand8 m s).2)) :
    ∃ t, exec i s = .next t ∧ IsSum (s.acc r) (operand8 m s).1 cin (t.acc r) t ∧
      IsHalf (s.acc r) (operand8 m s).1 cin t ∧ Keeps [accReg r] [.h, .n, .z, .v, .c] s t ∧ Reads8 m s t :=
  ⟨_, hexec, operand8_acc s m r ▸ isSum_addTo _ _ _ _, operand8_acc s m r ▸ isHalf_addTo _ _ _ _,
    (writes_addTo _ _ _ _).reads8⟩

/-- Settles O20: `adds_operand` for each operand form, and ABA with B in the operand's place. -/
theorem addsBytes : Obligations.AddsBytes := by
  unfold Obligations.AddsBytes
  intro s m
  refine ⟨?aba, ?adda, ?addb, ?adca, ?adcb⟩
  case aba => exact ⟨_, rfl, isSum_addTo s .a _ _, isHalf_addTo s .a _ _, (writes_addTo s .a _ _).frame⟩
  case adda | adca => exact adds_operand (r := .a) rfl
  case addb | adcb => exact adds_operand (r := .b) rfl

/-! ### Subtractions and comparisons -/

theorem isDifference_resultAcc (a v : Byte) (bin : Bool) (r : Acc) (u : State) :
    IsDifference a v bin ((resultAcc r (subFlags a v bin) u).acc r) (resultAcc r (subFlags a v bin) u) := by
  rw [acc_resultAcc]
  exact isDifference_setNZVC (w := 7) _ _ _ _

theorem isDifference_subFrom (s : State) (r : Acc) (v : Byte) (bin : Bool) :
    IsDifference (s.acc r) v bin ((subFrom r v bin s).acc r) (subFrom r v bin s) := isDifference_resultAcc _ _ _ _ _

theorem isDifference_compare8 (s : State) (r : Acc) (v : Byte) :
    IsDifference (s.acc r) v false (subFlags (s.acc r) v false).r (compare8 r v s) :=
  isDifference_setNZVC (w := 7) _ _ _ _

theorem isDifference_compare16 (s : State) (r : Reg16) (v : Word) :
    IsDifference (s.reg r) v false (subFlags (s.reg r) v false).r (compare16 r v s) :=
  isDifference_setNZVC (w := 15) _ _ _ _

/-- An instruction that subtracts an 8-bit operand from an accumulator. -/
theorem subtracts_operand {r : Acc} {bin : Bool}
    (hexec : exec i s = .next (subFrom r (operand8 m s).1 bin (operand8 m s).2)) :
    ∃ t, exec i s = .next t ∧ IsDifference (s.acc r) (operand8 m s).1 bin (t.acc r) t ∧
      Keeps [accReg r] [.n, .z, .v, .c] s t ∧ Reads8 m s t :=
  ⟨_, hexec, operand8_acc s m r ▸ isDifference_subFrom _ _ _ _, (writes_subFrom _ _ _ _).reads8⟩

/-- An instruction that compares an accumulator with an 8-bit operand. -/
theorem compares_operand {r : Acc} (hexec : exec i s = .next (compare8 r (operand8 m s).1 (operand8 m s).2)) :
    ∃ t d, exec i s = .next t ∧ IsDifference (s.acc r) (operand8 m s).1 false d t ∧
      Keeps [] [.n, .z, .v, .c] s t ∧ Reads8 m s t :=
  ⟨_, _, hexec, operand8_acc s m r ▸ isDifference_compare8 _ _ _, (writes_compare8 _ _ _).reads8⟩

/-- Settles O21: the shape of the subtractions and that of the comparisons, for each operand form. -/
theorem subtractsAndComparesBytes : Obligations.SubtractsAndComparesBytes := by
  unfold Obligations.SubtractsAndComparesBytes
  intro s m
  refine ⟨?sba, ?suba, ?subb, ?sbca, ?sbcb, ?cba, ?cmpa, ?cmpb⟩
  case sba => exact ⟨_, rfl, isDifference_subFrom s .a _ _, (writes_subFrom s .a _ _).frame⟩
  case suba | sbca => exact subtracts_operand (r := .a) rfl
  case subb | sbcb => exact subtracts_operand (r := .b) rfl
  case cba => exact ⟨_, _, rfl, isDifference_compare8 s .a _, (writes_compare8 s .a _).frame⟩
  case cmpa => exact compares_operand (r := .a) rfl
  case cmpb => exact compares_operand (r := .b) rfl

/-- An instruction that compares a 16-bit register with a 16-bit operand. -/
theorem compares_operand16 {r : Reg16} (hexec : exec i s = .next (compare16 r (operand16 q s).1 (operand16 q s).2)) :
    ∃ t d, exec i s = .next t ∧ IsDifference (s.reg r) (operand16 q s).1 false d t ∧
      Keeps [] [.n, .z, .v, .c] s t ∧ Reads16 q s t :=
  ⟨_, _, hexec, operand16_reg s q r ▸ isDifference_compare16 _ _ _, (writes_compare16 _ _ _).reads16⟩

/-- Settles O22. -/
theorem wordArithmetic : Obligations.WordArithmetic := by
  unfold Obligations.WordArithmetic
  intro s m
  refine ⟨?addd, ?subd, ?cpd, ?cpx, ?cpy⟩
  case addd =>
    refine ⟨_, rfl, ?_, (writes_resultD _ _).reads16⟩
    rw [d_resultD]
    exact isSum_setNZVC (w := 15) _ _ _ _
  case subd =>
    refine ⟨_, rfl, ?_, (writes_resultD _ _).reads16⟩
    rw [d_resultD]
    exact isDifference_setNZVC (w := 15) _ _ _ _
  case cpd => exact compares_operand16 (r := .d) rfl
  case cpx => exact compares_operand16 (r := .x) rfl
  case cpy => exact compares_operand16 (r := .y) rfl

/-! ### Logic and loads -/

theorem logicFlags_putAcc (r : Acc) (v : Byte) (u : State) : LogicFlags ((putAcc r v u).acc r) (putAcc r v u) := by
  rw [acc_putAcc]
  exact logicFlags_setLogic _ v

theorem logicFlags_putReg (r : Reg16) (v : Word) (u : State) : LogicFlags ((putReg r v u).reg r) (putReg r v u) := by
  rw [reg_putReg]
  exact logicFlags_setLogic _ v

/-- An instruction that puts a value made of an 8-bit operand into an accumulator. -/
theorem puts_operand {r : Acc} {v : Byte} (hexec : exec i s = .next (putAcc r v (operand8 m s).2)) :
    ∃ t, exec i s = .next t ∧ t.acc r = v ∧ LogicFlags (t.acc r) t ∧ Keeps [accReg r] [.n, .z, .v] s t ∧
      Reads8 m s t :=
  ⟨_, hexec, acc_putAcc _ r v, logicFlags_putAcc r v _, (writes_putAcc _ r v).reads8⟩

/-- An instruction that loads a 16-bit operand into a register. -/
theorem loads_operand16 {r : Reg16} (hexec : exec i s = .next (putReg r (operand16 q s).1 (operand16 q s).2)) :
    ∃ t, exec i s = .next t ∧ t.reg r = (operand16 q s).1 ∧ LogicFlags (t.reg r) t ∧
      Keeps (wideRegs r) [.n, .z, .v] s t ∧ Reads16 q s t :=
  ⟨_, hexec, reg_putReg _ r _, logicFlags_putReg r _ _, (writes_putReg _ r _).reads16⟩

/-- Settles O23. -/
theorem byteLogic : Obligations.ByteLogic := by
  unfold Obligations.ByteLogic
  intro s m
  refine ⟨?anda, ?andb, ?eora, ?eorb, ?oraa, ?orab, ?bita, ?bitb⟩
  case anda | eora | oraa => exact puts_operand (r := .a) rfl
  case andb | eorb | orab => exact puts_operand (r := .b) rfl
  case bita | bitb => exact ⟨_, rfl, logicFlags_setLogic _ _, (writes_setLogic _ _).reads8⟩

/-- Settles O24: the address of an indexed operand is computed before the register is written. -/
theorem loads : Obligations.Loads := by
  unfold Obligations.Loads
  intro s m w
  refine ⟨?ldaa, ?ldab, ?ldd, ?lds, ?ldx, ?ldy⟩
  case ldaa => exact puts_operand (r := .a) rfl
  case ldab => exact puts_operand (r := .b) rfl
  case ldd => exact loads_operand16 (r := .d) rfl
  case lds => exact loads_operand16 (r := .sp) rfl
  case ldx => exact loads_operand16 (r := .x) rfl
  case ldy => exact loads_operand16 (r := .y) rfl

/-! ### Stores -/

/-- An instruction that stores an accumulator. -/
theorem stores_acc {r : Acc} {e : Ea} (hexec : exec i s = .next (storeAcc r e s)) :
    ∃ t, exec i s = .next t ∧ Puts (eaAddr e s) (s.acc r) s t ∧ LogicFlags (s.acc r) t ∧
      Keeps [] [.n, .z, .v] s t :=
  ⟨_, hexec, (writes_setLogic _ _).puts, logicFlags_setLogic _ _, keeps_storeAcc s r e⟩

/-- An instruction that stores a 16-bit register. -/
theorem stores_reg {r : Reg16} {e : Ea} (hexec : exec i s = .next (storeReg r e s)) :
    ∃ t, exec i s = .next t ∧ Puts16 (eaAddr e s) (s.reg r) s t ∧ LogicFlags (s.reg r) t ∧
      Keeps [] [.n, .z, .v] s t :=
  ⟨_, hexec, (writes_setLogic _ _).puts16, logicFlags_setLogic _ _, keeps_storeReg s r e⟩

/-- Settles O25. -/
theorem stores : Obligations.Stores := by
  unfold Obligations.Stores
  intro s e
  refine ⟨?staa, ?stab, ?std, ?sts, ?stx, ?sty⟩
  case staa => exact stores_acc (r := .a) rfl
  case stab => exact stores_acc (r := .b) rfl
  case std => exact stores_reg (r := .d) rfl
  case sts => exact stores_reg (r := .sp) rfl
  case stx => exact stores_reg (r := .x) rfl
  case sty => exact stores_reg (r := .y) rfl

end

end Sys2Proof.Claims
end

section
/-! CERTIFICATE. Shifts and rotates bit by bit, the one-operand instructions, the index registers, the transfers and the
condition codes: O26 to O32. -/

namespace Sys2Proof.Claims

open Sys2Proof.Machine Host

/-! ### Shifts and rotates -/

section
variable {w : Nat} (u : State)

/-- C is the top bit of the operand and V is N xor C, so only the result's bits are left to say. -/
theorem isShiftLeft_setNZVC {m r : BitVec w} {low : Bool} (hup : ∀ i, i + 1 < w → r.getLsbD (i + 1) = m.getLsbD i)
    (hlow : r.getLsbD 0 = low) : IsShiftLeft m low r (u.setNZVC (shifted r m.msb)) := by
  have hc : (u.setNZVC (shifted r m.msb)).flag .c = m.msb := State.flag_setNZVC u _ .c
  have hn : (u.setNZVC (shifted r m.msb)).flag .n = flagN r := State.flag_setNZVC u _ .n
  refine ⟨hup, hlow, nzof_setNZVC u (f := shifted r m.msb) rfl rfl, hc.trans (BitVec.msb_eq_getLsbD_last m), ?_⟩
  rw [hn, hc]
  exact State.flag_setNZVC u _ .v

/-- C is bit 0 of the operand and V is N xor C. -/
theorem isShiftRight_setNZVC {m r : BitVec w} {high : Bool} (hdown : ∀ i, i + 1 < w → r.getLsbD i = m.getLsbD (i + 1))
    (hhigh : r.getLsbD (w - 1) = high) : IsShiftRight m high r (u.setNZVC (shifted r (m.getLsbD 0))) := by
  have hc : (u.setNZVC (shifted r (m.getLsbD 0))).flag .c = m.getLsbD 0 := State.flag_setNZVC u _ .c
  have hn : (u.setNZVC (shifted r (m.getLsbD 0))).flag .n = flagN r := State.flag_setNZVC u _ .n
  refine ⟨hdown, hhigh, nzof_setNZVC u (f := shifted r (m.getLsbD 0)) rfl rfl, hc, ?_⟩
  rw [hn, hc]
  exact State.flag_setNZVC u _ .v

theorem isShiftLeft_asl (m : BitVec w) : IsShiftLeft m false (aslFlags m).r (u.setNZVC (aslFlags m)) := by
  refine isShiftLeft_setNZVC (r := m <<< 1) u (fun i hi => ?_) ?_
  · simp [-BitVec.getLsbD_eq_getElem, hi]
  · simp

theorem isShiftRight_lsr (m : BitVec w) : IsShiftRight m false (lsrFlags m).r (u.setNZVC (lsrFlags m)) := by
  refine isShiftRight_setNZVC (r := m >>> 1) u (fun i _ => ?_) ?_
  · rw [BitVec.getLsbD_ushiftRight, Nat.add_comm]
  · rw [BitVec.getLsbD_ushiftRight]
    exact BitVec.getLsbD_of_ge m _ (by omega)

theorem isShiftRight_asr (m : Byte) : IsShiftRight m (m.getLsbD 7) (asrFlags m).r (u.setNZVC (asrFlags m)) := by
  refine isShiftRight_setNZVC (r := m.sshiftRight 1) u (fun i hi => ?_) ?_
  · have hlt : ¬8 ≤ i := by omega
    rw [BitVec.getLsbD_sshiftRight, if_pos (by omega), Nat.add_comm, decide_eq_false hlt]
    rfl
  · rw [BitVec.getLsbD_sshiftRight, if_neg (by omega), BitVec.msb_eq_getLsbD_last]
    rfl

/-- One bit as a byte has that bit at place 0 only. -/
theorem getLsbD_bitByte (b : Bool) (i : Nat) : (bitByte b).getLsbD i = (b && decide (i = 0)) := by
  cases b <;> simp [bitByte, BitVec.getLsbD_one]

theorem isShiftLeft_rol (m : Byte) (cin : Bool) :
    IsShiftLeft m cin (rolFlags m cin).r (u.setNZVC (rolFlags m cin)) := by
  refine isShiftLeft_setNZVC (r := (m <<< 1) ||| bitByte cin) u (fun i hi => ?_) ?_
  · rw [BitVec.getLsbD_or, getLsbD_bitByte, BitVec.getLsbD_shiftLeft]
    simp [hi]
  · rw [BitVec.getLsbD_or, getLsbD_bitByte, BitVec.getLsbD_shiftLeft]
    simp

theorem isShiftRight_ror (m : Byte) (cin : Bool) :
    IsShiftRight m cin (rorFlags m cin).r (u.setNZVC (rorFlags m cin)) := by
  refine isShiftRight_setNZVC (r := (m >>> 1) ||| (bitByte cin <<< 7)) u (fun i hi => ?_) ?_
  · have hlt : i < 7 := by omega
    rw [BitVec.getLsbD_or, BitVec.getLsbD_ushiftRight, BitVec.getLsbD_shiftLeft, Nat.add_comm]
    simp [hlt]
  · rw [BitVec.getLsbD_or, BitVec.getLsbD_ushiftRight, BitVec.getLsbD_shiftLeft, getLsbD_bitByte]
    simp

end

section
variable {s : State} {i : Instr}

/-- An instruction that shifts an accumulator up. -/
theorem shiftsLeft_acc {r : Acc} {f : Arith 8} {low : Bool} (hexec : exec i s = .next (resultAcc r f s))
    (hshift : IsShiftLeft (s.acc r) low f.r (resultAcc r f s)) :
    ∃ t, exec i s = .next t ∧ IsShiftLeft (s.acc r) low (t.acc r) t ∧ Keeps [accReg r] [.n, .z, .v, .c] s t ∧
      NoAccess s t :=
  ⟨_, hexec, acc_resultAcc s r f ▸ hshift, (writes_resultAcc s r f).frame⟩

/-- An instruction that shifts an accumulator down. -/
theorem shiftsRight_acc {r : Acc} {f : Arith 8} {high : Bool} (hexec : exec i s = .next (resultAcc r f s))
    (hshift : IsShiftRight (s.acc r) high f.r (resultAcc r f s)) :
    ∃ t, exec i s = .next t ∧ IsShiftRight (s.acc r) high (t.acc r) t ∧ Keeps [accReg r] [.n, .z, .v, .c] s t ∧
      NoAccess s t :=
  ⟨_, hexec, acc_resultAcc s r f ▸ hshift, (writes_resultAcc s r f).frame⟩

theorem shiftsLeft_d (hexec : exec i s = .next (resultD (aslFlags s.d) s)) :
    ∃ t, exec i s = .next t ∧ IsShiftLeft s.d false t.d t ∧ Keeps [.a, .b] [.n, .z, .v, .c] s t ∧ NoAccess s t :=
  ⟨_, hexec, d_resultD s (aslFlags s.d) ▸ isShiftLeft_asl _ s.d, (writes_resultD s _).frame⟩

/-- Settles O26. -/
theorem registerShifts : Obligations.RegisterShifts := by
  unfold Obligations.RegisterShifts
  intro s
  refine ⟨?asla, ?aslb, ?asld, ?asra, ?asrb, ?lsra, ?lsrb, ?lsrd, ?rola, ?rolb, ?rora, ?rorb⟩
  case asla =>
    intro i hi
    fin_cases hi <;> exact shiftsLeft_acc (r := .a) rfl (isShiftLeft_asl _ _)
  case aslb =>
    intro i hi
    fin_cases hi <;> exact shiftsLeft_acc (r := .b) rfl (isShiftLeft_asl _ _)
  case asld =>
    intro i hi
    fin_cases hi <;> exact shiftsLeft_d rfl
  case asra => exact shiftsRight_acc (r := .a) rfl (isShiftRight_asr _ _)
  case asrb => exact shiftsRight_acc (r := .b) rfl (isShiftRight_asr _ _)
  case lsra => exact shiftsRight_acc (r := .a) rfl (isShiftRight_lsr _ _)
  case lsrb => exact shiftsRight_acc (r := .b) rfl (isShiftRight_lsr _ _)
  case lsrd =>
    exact ⟨_, rfl, d_resultD s (lsrFlags s.d) ▸ isShiftRight_lsr _ s.d, (writes_resultD s _).frame⟩
  case rola => exact shiftsLeft_acc (r := .a) rfl (isShiftLeft_rol _ _ _)
  case rolb => exact shiftsLeft_acc (r := .b) rfl (isShiftLeft_rol _ _ _)
  case rora => exact shiftsRight_acc (r := .a) rfl (isShiftRight_ror _ _ _)
  case rorb => exact shiftsRight_acc (r := .b) rfl (isShiftRight_ror _ _ _)

/-- Settles O27: the flags are those of the register forms, the byte goes back to the address it was read at. -/
theorem memoryShifts : Obligations.MemoryShifts := by
  unfold Obligations.MemoryShifts
  intro s e
  refine ⟨?asl, ?asr, ?lsr, ?rol, ?ror⟩
  case asl =>
    intro i hi
    fin_cases hi <;> exact ⟨_, _, rfl, isShiftLeft_asl _ _, rewrites_modifyByte s e _⟩
  case asr => exact ⟨_, _, rfl, isShiftRight_asr _ _, rewrites_modifyByte s e _⟩
  case lsr => exact ⟨_, _, rfl, isShiftRight_lsr _ _, rewrites_modifyByte s e _⟩
  case rol => exact ⟨_, _, rfl, isShiftLeft_rol _ _ _, rewrites_modifyByte s e _⟩
  case ror => exact ⟨_, _, rfl, isShiftRight_ror _ _ _, rewrites_modifyByte s e _⟩

end

/-! ### One operand -/

/-- A written flag that comes out as before is kept. -/
theorem Keeps.of_flag_kept {R : List CpuReg} {F F' : List Flag} {s t : State} {f : Flag} (h : Keeps R F s t)
    (hkept : t.flag f = s.flag f) (hF : ∀ g ∈ F, g = f ∨ g ∈ F') : Keeps R F' s t := by
  obtain ⟨⟨hregs, hflags, hrest⟩, hrun⟩ := h
  refine ⟨⟨hregs, fun g hg => ?_, hrest⟩, hrun⟩
  by_cases hgf : g = f
  · exact hgf ▸ hkept
  · exact hflags g fun hgF => (hF g hgF).elim hgf hg

section
variable {s : State} {i : Instr}

/-- COM and CLR of an accumulator: the result, N and Z of it, V cleared, C as the rule says. -/
theorem logic_result {r : Acc} {f : Arith 8} (hexec : exec i s = .next (resultAcc r f s)) (hn : f.n = flagN f.r)
    (hz : f.z = flagZ f.r) (hv : f.v = false) :
    ∃ t, exec i s = .next t ∧ t.acc r = f.r ∧ LogicFlags (t.acc r) t ∧ t.flag .c = f.c ∧
      Keeps [accReg r] [.n, .z, .v, .c] s t ∧ NoAccess s t :=
  ⟨_, hexec, acc_resultAcc s r f, acc_resultAcc s r f ▸ logicFlags_setNZVC _ hn hz hv, State.flag_setNZVC _ f .c,
    (writes_resultAcc s r f).frame⟩

/-- INC and DEC of an accumulator: N, Z and V as the rule says, C kept. -/
theorem step_result {r : Acc} {f : Arith 8} {n : Nat} {v : Bool} (hexec : exec i s = .next (resultAcc r f s))
    (hr : f.r.toNat = n) (hn : f.n = flagN f.r) (hz : f.z = flagZ f.r) (hv : f.v = v) (hc : f.c = s.flag .c) :
    ∃ t, exec i s = .next t ∧ (t.acc r).toNat = n ∧ NZof (t.acc r) t ∧ t.flag .v = v ∧
      Keeps [accReg r] [.n, .z, .v] s t ∧ NoAccess s t := by
  obtain ⟨hkeeps, hnoAccess⟩ := (writes_resultAcc s r f).frame
  refine ⟨_, hexec, acc_resultAcc s r f ▸ hr, acc_resultAcc s r f ▸ nzof_setNZVC _ hn hz,
    (State.flag_setNZVC _ f .v).trans hv, hkeeps.of_flag_kept (f := .c) ?_ (by simp), hnoAccess⟩
  exact (State.flag_setNZVC _ f .c).trans hc

theorem incFlags_r_toNat (m : Byte) (c : Bool) : (incFlags m c).r.toNat = (m.toNat + 1) % 256 := BitVec.toNat_add m 1

theorem decFlags_r_toNat (m : Byte) (c : Bool) : (decFlags m c).r.toNat = (m.toNat + 255) % 256 :=
  (BitVec.toNat_sub m 1).trans (congrArg (· % 256) (Nat.add_comm 255 m.toNat))

/-- Settles O28. -/
theorem registerUnary : Obligations.RegisterUnary := by
  unfold Obligations.RegisterUnary
  intro s
  refine ⟨?nega, ?negb, ?coma, ?comb, ?clra, ?clrb, ?inca, ?incb, ?deca, ?decb, ?tsta, ?tstb⟩
  case nega =>
    exact ⟨_, rfl, isDifference_resultAcc 0 s.a false .a s, (writes_resultAcc s .a (negFlags s.a)).frame⟩
  case negb =>
    exact ⟨_, rfl, isDifference_resultAcc 0 s.b false .b s, (writes_resultAcc s .b (negFlags s.b)).frame⟩
  case coma => exact logic_result (r := .a) (f := comFlags s.a) rfl rfl rfl rfl
  case comb => exact logic_result (r := .b) (f := comFlags s.b) rfl rfl rfl rfl
  case clra => exact logic_result (r := .a) (f := clrFlags) rfl rfl rfl rfl
  case clrb => exact logic_result (r := .b) (f := clrFlags) rfl rfl rfl rfl
  case inca => exact step_result (r := .a) rfl (incFlags_r_toNat _ _) rfl rfl rfl rfl
  case incb => exact step_result (r := .b) rfl (incFlags_r_toNat _ _) rfl rfl rfl rfl
  case deca => exact step_result (r := .a) rfl (decFlags_r_toNat _ _) rfl rfl rfl rfl
  case decb => exact step_result (r := .b) rfl (decFlags_r_toNat _ _) rfl rfl rfl rfl
  case tsta =>
    exact ⟨_, rfl, logicFlags_setNZVC s (f := tstFlags s.a) rfl rfl rfl, State.flag_setNZVC s _ .c,
      (writes_setNZVC s _).frame⟩
  case tstb =>
    exact ⟨_, rfl, logicFlags_setNZVC s (f := tstFlags s.b) rfl rfl rfl, State.flag_setNZVC s _ .c,
      (writes_setNZVC s _).frame⟩

/-- INC and DEC of a memory byte: N, Z and V as the rule says, C kept. -/
theorem step_memory {e : Ea} {f : Byte → Bool → Arith 8} {n : Nat} {v : Bool}
    (hexec : exec i s = .next (modifyByte e f s)) (hr : ∀ c, (f (memRead (eaAddr e s) s).1 c).r.toNat = n)
    (hn : ∀ m c, (f m c).n = flagN (f m c).r) (hz : ∀ m c, (f m c).z = flagZ (f m c).r)
    (hv : ∀ c, (f (memRead (eaAddr e s) s).1 c).v = v) (hc : ∀ m c, (f m c).c = c) :
    ∃ t r, exec i s = .next t ∧ r.toNat = n ∧ NZof r t ∧ t.flag .v = v ∧ Rewrites (eaAddr e s) r s t ∧
      Keeps [] [.n, .z, .v] s t := by
  obtain ⟨hrewrites, hkeeps⟩ := rewrites_modifyByte s e f
  refine ⟨_, _, hexec, hr _, nzof_setNZVC _ (hn _ _) (hz _ _), (State.flag_setNZVC _ _ .v).trans (hv _), hrewrites,
    hkeeps.of_flag_kept (f := .c) ?_ (by simp)⟩
  exact (State.flag_setNZVC _ _ .c).trans (hc _ _)

/-- Settles O29: the register forms' flags, on the byte at the effective address. -/
theorem memoryUnary : Obligations.MemoryUnary := by
  unfold Obligations.MemoryUnary
  intro s e
  refine ⟨?neg, ?com, ?clr, ?inc, ?dec, ?tst⟩
  case neg => exact ⟨_, _, rfl, isDifference_setNZVC (w := 7) _ _ _ _, rewrites_modifyByte s e fun m _ => negFlags m⟩
  case com =>
    exact ⟨_, _, rfl, rfl, logicFlags_setNZVC _ (f := comFlags _) rfl rfl rfl, State.flag_setNZVC _ _ .c,
      rewrites_modifyByte s e fun m _ => comFlags m⟩
  case clr =>
    exact ⟨_, rfl, logicFlags_setNZVC _ (f := clrFlags) rfl rfl rfl, State.flag_setNZVC _ _ .c,
      rewrites_modifyByte s e fun _ _ => clrFlags⟩
  case inc =>
    exact step_memory rfl (incFlags_r_toNat _) (fun _ _ => rfl) (fun _ _ => rfl) (fun _ => rfl) incFlags_c
  case dec =>
    exact step_memory rfl (decFlags_r_toNat _) (fun _ _ => rfl) (fun _ _ => rfl) (fun _ => rfl) decFlags_c
  case tst =>
    exact ⟨_, rfl, logicFlags_setNZVC _ (f := tstFlags _) rfl rfl rfl, State.flag_setNZVC _ _ .c,
      (writes_setNZVC _ _).readsByte⟩

end

/-! ### Index registers, transfers, condition codes -/

/-- Going one down is going 65535 up (R6). -/
theorem sub_one_toNat (v : Word) : (v - 1).toNat = (v.toNat + 65535) % 65536 :=
  (BitVec.toNat_sub v 1).trans (congrArg (· % 65536) (Nat.add_comm 65535 v.toNat))

theorem add_zext16_toNat (v : Word) (b : Byte) : (v + zext16 b).toNat = (v.toNat + b.toNat) % 65536 := by
  rw [BitVec.toNat_add, zext16_toNat]

/-- Settles O30. -/
theorem indexArithmetic : Obligations.IndexArithmetic := by
  unfold Obligations.IndexArithmetic
  intro s
  refine ⟨?inx, ?iny, ?dex, ?dey, ?ins, ?des, ?abx, ?aby⟩
  case inx =>
    exact ⟨_, rfl, BitVec.toNat_add s.x 1, State.flag_setFlag _ .z .z _,
      ((writes_setX s _).trans (writes_setFlag _ .z _)).frame⟩
  case iny =>
    exact ⟨_, rfl, BitVec.toNat_add s.y 1, State.flag_setFlag _ .z .z _,
      ((writes_setY s _).trans (writes_setFlag _ .z _)).frame⟩
  case dex =>
    exact ⟨_, rfl, sub_one_toNat s.x, State.flag_setFlag _ .z .z _,
      ((writes_setX s _).trans (writes_setFlag _ .z _)).frame⟩
  case dey =>
    exact ⟨_, rfl, sub_one_toNat s.y, State.flag_setFlag _ .z .z _,
      ((writes_setY s _).trans (writes_setFlag _ .z _)).frame⟩
  case ins => exact ⟨_, rfl, BitVec.toNat_add s.sp 1, (writes_setSp s _).frame⟩
  case des => exact ⟨_, rfl, sub_one_toNat s.sp, (writes_setSp s _).frame⟩
  case abx => exact ⟨_, rfl, add_zext16_toNat s.x s.b, (writes_setX s _).frame⟩
  case aby => exact ⟨_, rfl, add_zext16_toNat s.y s.b, (writes_setY s _).frame⟩

/-- Settles O31. -/
theorem transfers : Obligations.Transfers := by
  unfold Obligations.Transfers
  intro s
  refine ⟨?tab, ?tba, ?tpa, ?tsx, ?tsy, ?txs, ?tys, ?xgdx, ?xgdy⟩
  case tab => exact ⟨_, rfl, rfl, logicFlags_setLogic _ s.a, (writes_putAcc s .b s.a).frame⟩
  case tba => exact ⟨_, rfl, rfl, logicFlags_setLogic _ s.b, (writes_putAcc s .a s.b).frame⟩
  case tpa => exact ⟨_, rfl, rfl, (writes_setA s _).frame⟩
  case tsx => exact ⟨_, rfl, rfl, (writes_setX s _).frame⟩
  case tsy => exact ⟨_, rfl, rfl, (writes_setY s _).frame⟩
  case txs | tys => exact ⟨_, rfl, rfl, (writes_setSp s _).frame⟩
  case xgdx =>
    exact ⟨_, rfl, cat16_hi_lo s.x, rfl,
      (((writes_setX s _).trans (writes_setD _ _)).mono (by simp) (by simp)).frame⟩
  case xgdy =>
    exact ⟨_, rfl, cat16_hi_lo s.y, rfl,
      (((writes_setY s _).trans (writes_setD _ _)).mono (by simp) (by simp)).frame⟩

/-- An instruction that writes one flag. -/
theorem sets_flag {i : Instr} {s : State} {f : Flag} {v : Bool} (hexec : exec i s = .next (s.setFlag f v)) :
    ∃ t, exec i s = .next t ∧ t.flag f = v ∧ Keeps [] [f] s t ∧ NoAccess s t :=
  ⟨_, hexec, (State.flag_setFlag s f f v).trans (if_pos rfl), (writes_setFlag s f v).frame⟩

/-- Settles O32. -/
theorem conditionCodeInstructions : Obligations.ConditionCodeInstructions := by
  unfold Obligations.ConditionCodeInstructions
  intro s
  refine ⟨?clc, ?sec, ?clv, ?sev, ?sei, ?nop, ?cli, ?tap⟩
  case clc | sec | clv | sev | sei => exact sets_flag rfl
  case nop => rfl
  case cli =>
    exact ⟨_, rfl, State.flag_setFlag _ .i .i false, rfl, rfl,
      (keepsData_setIrqInhibit s _).trans (writes_setFlag _ .i false).1.1, fun _ => rfl, rfl, rfl, rfl⟩
  case tap =>
    have loaded := writes_setCcr s (F := [.s, .x, .h, .i, .n, .z, .v, .c]) (v := ccrLoad s.ccr s.a) fun f hf => by
      cases f <;> simp at hf
    exact ⟨_, rfl, fun f hf => (ccrGet_ccrLoad s.ccr s.a f).trans (if_neg hf), ccrGet_ccrLoad s.ccr s.a .x, rfl, rfl,
      loaded.1.1.trans (keepsData_setIrqInhibit _ _), fun _ => rfl, rfl, rfl, rfl⟩

end Sys2Proof.Claims
end

section
/-! CERTIFICATE. Branches after a comparison, the opcode pairs, the bit instructions: O34 to O37. -/

namespace Sys2Proof.Claims

open Sys2Proof.Machine Host

/-! ### A comparison's flags as relations -/

section
variable {w : Nat}

theorem subFlags_r_eq_sub (r m : BitVec w) : (subFlags r m false).r = r - m := by
  have hm := m.isLt
  have hwrap : (((r - m).toNat : Nat) : Int) = ((r.toNat : Int) - m.toNat) % 2 ^ w := by
    rw [BitVec.toNat_sub, Int.natCast_mod, Nat.cast_add, Nat.cast_sub hm.le, Nat.cast_pow, Nat.cast_ofNat,
      ← Int.add_emod_right ((r.toNat : Int) - m.toNat)]
    congr 1
    ring
  apply BitVec.eq_of_toNat_eq
  have h := subFlags_r_toNat r m false
  rw [Bool.toNat_false, Nat.cast_zero, sub_zero, ← hwrap] at h
  exact Int.ofNat.inj h

/-- Z of a comparison is equality. -/
theorem decide_sub_eq_zero (r m : BitVec w) : decide (r - m = 0) = decide (r = m) :=
  decide_eq_decide.mpr ⟨fun h => by simpa [h] using (BitVec.sub_add_cancel r m).symm, fun h => by simp [h]⟩

/-- N xor V of a comparison is the signed relation. -/
theorem msb_xor_signedOverflows (r m : BitVec (w + 1)) :
    ((r - m).msb ^^ signedOverflows r m) = decide (r.toInt < m.toInt) := by
  have hr := r.isLt
  have hm := m.isLt
  have hd := subFlags_r_toNat_cond r m false
  have hpow : (2 : Int) ^ w = (2 ^ w : Nat) := by norm_cast
  simp only [subFlags_c, subFlags_r_eq_sub, decide_eq_true_eq, pow_succ, hpow, Bool.toNat_false] at hr hm hd
  simp only [signedOverflows, BitVec.msb_eq_decide, BitVec.toInt_eq_toNat_cond, hpow, Nat.add_sub_cancel, pow_succ]
  generalize (r - m).toNat = d at *
  generalize 2 ^ w = half at *
  rw [Bool.eq_iff_iff, Bool.xor_iff_ne, ne_eq, decide_eq_decide, decide_eq_true_eq]
  split at hd <;> split <;> split <;> omega

/-- The flags a comparison leaves, as relations of its operands. -/
theorem flags_of_isDifference {r m d : BitVec (w + 1)} {t : State} (h : IsDifference r m false d t) :
    t.flag .c = decide (r.toNat < m.toNat) ∧ t.flag .z = decide (r = m) ∧ t.flag .n = (r - m).msb ∧
      t.flag .v = signedOverflows r m := by
  obtain ⟨hd, ⟨hn, hz⟩, hc, hv⟩ := h
  have hdiff : d = r - m := by
    rw [← subFlags_r_eq_sub]
    exact BitVec.eq_of_toNat_eq (Int.ofNat.inj (hd.trans (subFlags_r_toNat r m false).symm))
  subst hdiff
  exact ⟨hc, hz.trans (decide_sub_eq_zero r m), hn, by simpa [signedOverflows] using hv⟩

/-- Every branch after a comparison, from the four relations its flags are. -/
theorem branchesRelate_of_isDifference {r m d : BitVec (w + 1)} {t : State} (h : IsDifference r m false d t) :
    BranchesRelate r m t := by
  obtain ⟨hc, hz, hn, hv⟩ := flags_of_isDifference h
  have hlt : (t.flag .n ^^ t.flag .v) = decide (r.toInt < m.toInt) := by rw [hn, hv, msb_xor_signedOverflows]
  have hnat : decide (r = m) = decide (r.toNat = m.toNat) := decide_eq_decide.mpr BitVec.toNat_inj.symm
  have hint : decide (r = m) = decide (r.toInt = m.toInt) := decide_eq_decide.mpr BitVec.toInt_inj.symm
  intro rr
  refine ⟨exec_eq_branched (k := .hi) rfl ?hi, exec_eq_branched (k := .cc) rfl ?cc, exec_eq_branched (k := .cc) rfl ?cc,
    exec_eq_branched (k := .eq) rfl ?eq, exec_eq_branched (k := .ne) rfl ?ne, exec_eq_branched (k := .ls) rfl ?ls,
    exec_eq_branched (k := .cs) rfl ?cs, exec_eq_branched (k := .cs) rfl ?cs, exec_eq_branched (k := .gt) rfl ?gt,
    exec_eq_branched (k := .ge) rfl ?ge, exec_eq_branched (k := .le) rfl ?le, exec_eq_branched (k := .lt) rfl ?lt,
    exec_eq_branched (k := .mi) rfl ?mi, exec_eq_branched (k := .pl) rfl ?pl, exec_eq_branched (k := .vs) rfl ?vs,
    exec_eq_branched (k := .vc) rfl ?vc⟩
  case hi =>
    rw [Cond.holds_hi, hc, hz, hnat, Bool.eq_iff_iff]
    simp only [Bool.and_eq_true, Bool.not_eq_true', decide_eq_false_iff_not, decide_eq_true_eq]
    omega
  case ls =>
    show (t.flag .c || t.flag .z) = _
    rw [hc, hz, hnat, Bool.eq_iff_iff]
    simp only [Bool.or_eq_true, decide_eq_true_eq]
    omega
  case cc =>
    show (!t.flag .c) = _
    rw [hc, ← decide_not]
    exact decide_eq_decide.mpr Nat.not_lt
  case gt =>
    show (!(t.flag .z || (t.flag .n ^^ t.flag .v))) = _
    rw [hlt, hz, hint, Bool.eq_iff_iff]
    simp only [Bool.not_or, Bool.and_eq_true, Bool.not_eq_true', decide_eq_false_iff_not, decide_eq_true_eq]
    omega
  case le =>
    show (t.flag .z || (t.flag .n ^^ t.flag .v)) = _
    rw [hlt, hz, hint, Bool.eq_iff_iff]
    simp only [Bool.or_eq_true, decide_eq_true_eq]
    omega
  case ge =>
    show (!(t.flag .n ^^ t.flag .v)) = _
    rw [hlt, ← decide_not]
    exact decide_eq_decide.mpr Int.not_lt
  case ne => exact (congrArg (!·) hz).trans decide_not.symm
  case eq => exact hz
  case cs => exact hc
  case lt => exact hlt
  case mi => exact hn
  case pl => exact congrArg (!·) hn
  case vs => exact hv
  case vc => exact congrArg (!·) hv

end

/-- Settles O34, from the differences of O21 and O22. -/
theorem compareThenBranch : Obligations.CompareThenBranch := by
  unfold Obligations.CompareThenBranch
  intro s p q
  obtain ⟨hsba, hsuba, hsubb, -, -, hcba, hcmpa, hcmpb⟩ := subtractsAndComparesBytes s p
  obtain ⟨-, hsubd, hcpd, hcpx, hcpy⟩ := wordArithmetic s q
  have compared : ∀ {w : Nat} {i : Instr} {r m : BitVec (w + 1)} {P : State → Prop},
      (∃ t d, exec i s = .next t ∧ IsDifference r m false d t ∧ P t) →
      ∃ t, exec i s = .next t ∧ BranchesRelate r m t := fun ⟨t, _, hexec, hdiff, _⟩ =>
    ⟨t, hexec, branchesRelate_of_isDifference hdiff⟩
  have subtracted : ∀ {w : Nat} {i : Instr} {r m : BitVec (w + 1)} {d : State → BitVec (w + 1)} {P : State → Prop},
      (∃ t, exec i s = .next t ∧ IsDifference r m false (d t) t ∧ P t) →
      ∃ t, exec i s = .next t ∧ BranchesRelate r m t := fun ⟨t, hexec, hdiff, _⟩ =>
    ⟨t, hexec, branchesRelate_of_isDifference hdiff⟩
  exact ⟨compared (w := 7) hcmpa, compared (w := 7) hcmpb, compared (w := 7) hcba, compared (w := 15) hcpd,
    compared (w := 15) hcpx, compared (w := 15) hcpy, subtracted (w := 7) (d := State.a) hsuba,
    subtracted (w := 7) (d := State.b) hsubb, subtracted (w := 15) (d := State.d) hsubd,
    subtracted (w := 7) (d := State.a) hsba⟩

/-! ### The opcode pairs -/

/-- Settles O35: both conditions of a pair, read off the branch instructions. -/
theorem branchOpcodePairs : Obligations.BranchOpcodePairs := by
  unfold Obligations.BranchOpcodePairs
  intro rr s p hp
  fin_cases hp <;>
    exact ⟨decode_rel rfl rfl, decode_rel rfl rfl, exec_eq_branched rfl rfl, exec_eq_branched rfl (Bool.not_not _).symm⟩

/-! ### The bit instructions -/

/-- Settles O36. -/
theorem bitSetAndClear : Obligations.BitSetAndClear := by
  unfold Obligations.BitSetAndClear
  intro s e mm
  refine ⟨?bclr, ?bset⟩
  case bclr =>
    refine ⟨_, _, rfl, fun i hi => ?_, logicFlags_setLogic _ _, rewrites_modifyBits s e fun m => m &&& ~~~ mm⟩
    rw [BitVec.getLsbD_and, BitVec.getLsbD_not, decide_eq_true hi, Bool.true_and]
  case bset =>
    refine ⟨_, _, rfl, fun i _ => ?_, logicFlags_setLogic _ _, rewrites_modifyBits s e fun m => m ||| mm⟩
    rw [BitVec.getLsbD_or]

/-- No bit that the mask selects is 1. -/
theorem and_eq_zero_iff (m mask : Byte) : m &&& mask = 0 ↔ ∀ i, mask.getLsbD i = true → m.getLsbD i = false := by
  constructor
  · intro h i hi
    have hbit : (m &&& mask).getLsbD i = false := by rw [h]; exact BitVec.getLsbD_zero
    rwa [BitVec.getLsbD_and, hi, Bool.and_true] at hbit
  · intro h
    apply BitVec.eq_of_getLsbD_eq
    intro i _
    rw [BitVec.getLsbD_and, show BitVec.getLsbD (0 : Byte) i = false from BitVec.getLsbD_zero]
    cases hi : mask.getLsbD i
    · rw [Bool.and_false]
    · rw [h i hi, Bool.false_and]

/-- Every bit that the mask selects is 1. -/
theorem not_and_eq_zero_iff (m mask : Byte) :
    ~~~ m &&& mask = 0 ↔ ∀ i, mask.getLsbD i = true → m.getLsbD i = true := by
  rw [and_eq_zero_iff]
  refine forall_congr' fun i => imp_congr_right fun hi => ?_
  rw [BitVec.getLsbD_not, decide_eq_true (BitVec.lt_of_getLsbD hi), Bool.true_and, Bool.not_eq_false']

/-- A branch on the byte read at an effective address. -/
theorem branches_on_byte {i : Instr} {s : State} {e : Ea} {rr : Byte} {p q : Prop} [Decidable p]
    (hexec : exec i s = .next (if p then (memRead (eaAddr e s) s).2.setPc (relTarget s.pc rr)
      else (memRead (eaAddr e s) s).2)) (hpq : p ↔ q) :
    ∃ t, exec i s = .next t ∧ (q → t.pc = target s.pc rr) ∧ (¬q → t.pc = s.pc) ∧ ReadsByte e s t ∧
      Keeps [.pc] [] s t := by
  refine ⟨_, hexec, fun hq => ?_, fun hq => ?_, (writes_setPc_ite _ _ _).readsByte⟩
  · rw [if_pos (hpq.2 hq), State.setPc_pc, relTarget_eq_target]
  · rw [if_neg (mt hpq.1 hq), memRead_pc]

/-- Settles O37. -/
theorem branchOnBits : Obligations.BranchOnBits := by
  unfold Obligations.BranchOnBits
  intro s e mm rr
  exact ⟨branches_on_byte rfl (and_eq_zero_iff _ mm), branches_on_byte rfl (not_and_eq_zero_iff _ mm)⟩

end Sys2Proof.Claims
end

section
/-! CERTIFICATE. The stack: pushes and pulls as the statements say them (20_memory.md R74-R77), jumps and calls over them, and
what comes back through RAM: O38, O39, O43 to O45. -/

namespace Sys2Proof.Claims

open Sys2Proof.Machine Host

/-! ### Pushing and pulling a word -/

section
variable {R : List CpuReg} {F : List Flag} {s t : State}

/-- Registers written after a word is pushed, SP ending two lower. -/
theorem Writes.pushesWord {v : Word} (h : Writes R F (push16 v s) t) (hsp : t.sp = s.sp - 2) : PushesWord v s t := by
  have pushed : Puts (s.sp - 1) (hi v) (memWrite s.sp (lo v) s) t := by
    rw [push16_eq] at h
    exact ((writes_setSp _ _).trans h).puts
  refine ⟨pushed, fun b hb => ?_, hsp, fun hinv hhigh hlow => ?_⟩
  · obtain ⟨hhigh, hlow⟩ : b ≠ s.sp ∧ b ≠ s.sp - 1 := by simpa using hb
    rw [h.keepsMemory b, push16_stored_ne v s hhigh hlow]
  · rw [h.keepsMemory, h.keepsMemory]
    exact push16_stored v hhigh hlow hinv.1

theorem pushesWord_push16 (v : Word) (s : State) : PushesWord v s (push16 v s) :=
  (Writes.refl _).pushesWord (push16_sp v s)

/-- Registers written after a word is pulled, SP ending two higher. -/
theorem Writes.pullsWord (h : Writes R F (pull16 s).2 t) (hsp : t.sp = s.sp + 2) : PullsWord s t := by
  refine ⟨fun b => ?_, hsp, ?_⟩
  · rw [h.keepsMemory b, pull16_stored]
  · rw [pull16_eq] at h
    exact ((writes_setSp _ _).trans h).2.2

theorem pull16_fst (s : State) : (pull16 s).1 = pulledWord s := by rw [pull16_eq]; rfl

/-- The word on top of a stack in memory. -/
theorem pulledWord_of_isMem (h : IsMem s (s.sp + 1)) (l : IsMem s (s.sp + 2)) :
    pulledWord s = cat16 (s.stored (s.sp + 1)) (s.stored (s.sp + 2)) := by
  rw [pulledWord, memRead_eq_stored h, memRead_eq_stored l]

/-- The word that lies at and below a stack pointer two higher is the word pulled. -/
theorem pulledWord_of_stored {p v : Word} (hsp : t.sp = p - 2) (hcfg : t.cfg = s.cfg) (hp : IsRam s p)
    (hq : IsRam s (p - 1)) (hlow : t.stored p = lo v) (hhigh : t.stored (p - 1) = hi v) : pulledWord t = v := by
  have h1 : t.sp + 1 = p - 1 := by rw [hsp]; bv_omega
  have h2 : t.sp + 2 = p := by rw [hsp]; bv_omega
  rw [pulledWord_of_isMem (.inl (by rw [hcfg, h1]; exact hq)) (.inl (by rw [hcfg, h2]; exact hp)), h1, h2, hlow, hhigh,
    cat16_hi_lo]

end

/-! ### Jumps and calls -/

/-- JSR and BSR: the target is computed on the state before the push. -/
theorem calls {i : Instr} {s : State} {a : Word} (hexec : exec i s = .next (callTo a s)) :
    ∃ t, exec i s = .next t ∧ t.pc = a ∧ PushesWord s.pc s t ∧ Keeps [.sp, .pc] [] s t :=
  ⟨_, hexec, rfl, (writes_setPc _ a).pushesWord (push16_sp _ _), keeps_callTo s a⟩

/-- Settles O38. -/
theorem jumps : Obligations.Jumps := by
  unfold Obligations.Jumps
  intro s e rr
  refine ⟨rfl, calls rfl, ?bsr, ?rts⟩
  case bsr =>
    rw [← relTarget_eq_target]
    exact calls rfl
  case rts => exact ⟨_, rfl, pull16_fst s, (writes_setPc _ _).pullsWord (pull16_sp s), keeps_pullPc s⟩

/-- A call through RAM, then RTS. -/
theorem call_then_rts {i : Instr} {s : State} {a : Word} (hexec : exec i s = .next (callTo a s)) (hinv : s.Inv)
    (hhigh : IsRam s s.sp) (hlow : IsRam s (s.sp - 1)) :
    ∃ t u, exec i s = .next t ∧ exec .rts t = .next u ∧ u.pc = s.pc ∧ u.sp = s.sp := by
  obtain ⟨t, ht, -, ⟨-, -, hsp, hstored⟩, ⟨⟨-, -, -, -, hcfg, -⟩, -⟩⟩ := calls hexec
  obtain ⟨hlo, hhi⟩ := hstored hinv hhigh hlow
  refine ⟨t, pullPc t, ht, rfl, (pull16_fst t).trans (pulledWord_of_stored hsp hcfg hhigh hlow hlo hhi), ?_⟩
  rw [pullPc, State.setPc_sp, pull16_sp, hsp]
  bv_omega

/-- Settles O39. -/
theorem callThenReturn : Obligations.CallThenReturn := by
  unfold Obligations.CallThenReturn
  exact fun s e rr hinv hhigh hlow => ⟨call_then_rts rfl hinv hhigh hlow, call_then_rts rfl hinv hhigh hlow⟩

/-! ### Pushes and pulls -/

/-- PSHA and PSHB. -/
theorem pushes_byte {i : Instr} {s : State} {v : Byte} (hexec : exec i s = .next (push8 v s)) :
    ∃ t, exec i s = .next t ∧ Puts s.sp v s t ∧ t.sp = s.sp - 1 ∧ Keeps [.sp] [] s t :=
  ⟨_, hexec, (writes_setSp _ _).puts, push8_sp v s, keeps_push8 s v⟩

/-- PSHX and PSHY. -/
theorem pushes_word {i : Instr} {s : State} {v : Word} (hexec : exec i s = .next (push16 v s)) :
    ∃ t, exec i s = .next t ∧ PushesWord v s t ∧ Keeps [.sp] [] s t :=
  ⟨_, hexec, pushesWord_push16 v s, keeps_push16 s v⟩

/-- Settles O43. -/
theorem pushes : Obligations.Pushes := by
  unfold Obligations.Pushes
  exact fun s => ⟨fun _ => rfl, fun v => ⟨rfl, pushesWord_push16 v s⟩, pushes_byte rfl, pushes_byte rfl, pushes_word rfl,
    pushes_word rfl⟩

/-- The I/O side of a pulled byte is that of the read above SP. -/
theorem pull8_reads (s : State) : KeepsMemory s (pull8 s).2 ∧ SameIo (memRead (s.sp + 1) s).2 (pull8 s).2 := by
  rw [pull8_eq]
  exact ⟨fun b => memRead_stored _ s b, rfl, rfl, rfl⟩

theorem pull8_fst (s : State) : (pull8 s).1 = (memRead (s.sp + 1) s).1 := by rw [pull8_eq]

/-- Settles O44. -/
theorem pulls : Obligations.Pulls := by
  unfold Obligations.Pulls
  intro s
  obtain ⟨hmem, hio⟩ := pull8_reads s
  refine ⟨?pula, ?pulb, ?pulx, ?puly⟩
  case pula =>
    exact ⟨_, rfl, pull8_fst s, pull8_sp s, hmem, hio, (keeps_pullA s).mono (by simp) (by simp)⟩
  case pulb =>
    exact ⟨_, rfl, pull8_fst s, pull8_sp s, hmem, hio, (keeps_pullB s).mono (by simp) (by simp)⟩
  case pulx =>
    exact ⟨_, rfl, pull16_fst s, (writes_setX _ _).pullsWord (pull16_sp s), (keeps_pullX s).mono (by simp) (by simp)⟩
  case puly =>
    exact ⟨_, rfl, pull16_fst s, (writes_setY _ _).pullsWord (pull16_sp s), (keeps_pullY s).mono (by simp) (by simp)⟩

/-! ### Balance -/

/-- A pulled byte is the one memory holds above SP; nothing else happens but SP. -/
theorem pull8_of_isMem {s : State} (h : IsMem s (s.sp + 1)) : pull8 s = (s.stored (s.sp + 1), s.setSp (s.sp + 1)) := by
  rw [pull8_eq, memRead_eq_stored h]

theorem pull16_of_isMem {s : State} (h : IsMem s (s.sp + 1)) (l : IsMem s (s.sp + 2)) :
    pull16 s = (cat16 (s.stored (s.sp + 1)) (s.stored (s.sp + 2)), s.setSp (s.sp + 2)) := by
  rw [pull16_eq, memRead_eq_stored h, memRead_eq_stored l]

/-- PSHA; PULA. -/
theorem psha_then_pula {s : State} (hinv : s.Inv) (hram : IsRam s s.sp) :
    ∃ t u, exec .psha s = .next t ∧ exec .pula t = .next u ∧ u.stored s.sp = s.a ∧ StoresOnly [s.sp] s u ∧
      Keeps [] [] s u := by
  have hback : (push8 s.a s).sp + 1 = s.sp := by rw [push8_sp]; bv_omega
  have hstored : (push8 s.a s).stored s.sp = s.a := push8_stored_same s.a hram hinv.1
  have hpull : pullA (push8 s.a s) = ((push8 s.a s).setSp s.sp).setA s.a := by
    rw [pullA, pull8_of_isMem (.inl (by rw [hback, push8_cfg]; exact hram)), hback, hstored]
  refine ⟨push8 s.a s, pullA (push8 s.a s), rfl, rfl, ?_⟩
  rw [hpull]
  refine ⟨hstored, fun b hb => push8_stored_ne s.a s (by simpa using hb), ?_⟩
  have kept := ((keeps_push8 s s.a).trans (writes_setSp _ s.sp).1).trans (writes_setA _ s.a).1
  obtain ⟨⟨hregs, hrest⟩, hrun⟩ := kept
  refine ⟨⟨fun r _ => ?_, hrest⟩, hrun⟩
  cases r with
  | a | sp => rfl
  | _ => exact hregs _ (by simp)

/-- PSHX; PULY. -/
theorem pshx_then_puly {s : State} (hinv : s.Inv) (hhigh : IsRam s s.sp) (hlow : IsRam s (s.sp - 1)) :
    ∃ t u, exec .pshx s = .next t ∧ exec .puly t = .next u ∧ u.y = s.x ∧ u.sp = s.sp := by
  obtain ⟨t, ht, ⟨-, -, hsp, hstored⟩, ⟨⟨-, -, -, -, hcfg, -⟩, -⟩⟩ := pushes_word (i := .pshx) (s := s) rfl
  obtain ⟨hlo, hhi⟩ := hstored hinv hhigh hlow
  refine ⟨t, pullY t, ht, rfl, (pull16_fst t).trans (pulledWord_of_stored hsp hcfg hhigh hlow hlo hhi), ?_⟩
  rw [pullY_sp, hsp]
  bv_omega

/-- PSHA; PSHB; PULX: the two pushes lay the bytes of the word B : A. -/
theorem psha_pshb_then_pulx {s : State} (hinv : s.Inv) (hhigh : IsRam s s.sp) (hlow : IsRam s (s.sp - 1)) :
    ∃ t u v, exec .psha s = .next t ∧ exec .pshb t = .next u ∧ exec .pulx u = .next v ∧ v.x = cat16 s.b s.a ∧
      v.sp = s.sp := by
  have hword : push8 (push8 s.a s).b (push8 s.a s) = push16 (cat16 s.b s.a) s := by
    rw [push16, hi_cat16, lo_cat16, push8_b]
  obtain ⟨-, -, hsp, hstored⟩ := pushesWord_push16 (cat16 s.b s.a) s
  obtain ⟨hlo, hhi⟩ := hstored hinv hhigh hlow
  refine ⟨_, push16 (cat16 s.b s.a) s, _, rfl, congrArg Outcome.next hword, rfl,
    (pull16_fst _).trans (pulledWord_of_stored hsp (push16_cfg _ s) hhigh hlow hlo hhi), ?_⟩
  rw [pullX_sp, hsp]
  bv_omega

/-- Settles O45. -/
theorem stackBalance : Obligations.StackBalance := by
  unfold Obligations.StackBalance
  refine ⟨fun s hinv hhigh hlow => ⟨psha_then_pula hinv hhigh, pshx_then_puly hinv hhigh hlow,
    psha_pshb_then_pulx hinv hhigh hlow⟩, fun s h l => ?_⟩
  have byte := pull8_of_isMem h
  have word := pull16_of_isMem h l
  have silent : ∀ p, NoAccess s (s.setSp p) := fun p => (writes_setSp s p).noAccess
  refine ⟨⟨_, rfl, congrArg Prod.fst byte, ?_⟩, ⟨_, rfl, congrArg Prod.fst byte, ?_⟩,
    ⟨_, rfl, congrArg Prod.fst word, ?_⟩, ⟨_, rfl, congrArg Prod.fst word, ?_⟩, ⟨_, rfl, congrArg Prod.fst word, ?_⟩⟩
  · rw [pullA, byte]; exact silent (s.sp + 1)
  · rw [pullB, byte]; exact silent (s.sp + 1)
  · rw [pullX, word]; exact silent (s.sp + 2)
  · rw [pullY, word]; exact silent (s.sp + 2)
  · rw [pullPc, word]; exact silent (s.sp + 2)

end Sys2Proof.Claims
end

section
/-! CERTIFICATE. MUL, the divisions and DAA, and the decimal addition that DAA completes: O40 to O42. -/

namespace Sys2Proof.Claims

open Sys2Proof.Machine Host

/-! ### Multiplication and division -/

/-- A product of two bytes fits a word. -/
theorem zext16_mul_toNat (a b : Byte) : (zext16 a * zext16 b).toNat = a.toNat * b.toNat := by
  have hle : a.toNat * b.toNat ≤ 255 * 255 :=
    Nat.mul_le_mul (Nat.le_of_lt_succ a.isLt) (Nat.le_of_lt_succ b.isLt)
  rw [BitVec.toNat_mul, zext16_toNat, zext16_toNat]
  exact Nat.mod_eq_of_lt (by omega)

section
variable (s : State)

theorem d_setD (v : Word) : (s.setD v).d = v := cat16_hi_lo v

/-- The state a division with a quotient leaves. -/
def divided (q r : Nat) : State :=
  divideFlags (flagZ (BitVec.ofNat 16 q)) false false ((s.setX (BitVec.ofNat 16 q)).setD (BitVec.ofNat 16 r))

variable {s}

theorem exec_idiv_of_zero (h : s.x = 0) : exec .idiv s = .next (divideError false true s) := if_pos h

theorem exec_idiv_of_ne (h : s.x ≠ 0) :
    exec .idiv s = .next (divided s (s.d.toNat / s.x.toNat) (s.d.toNat % s.x.toNat)) := if_neg h

theorem exec_fdiv_of_zero (h : s.x = 0) : exec .fdiv s = .next (divideError true true s) := if_pos h

theorem exec_fdiv_of_le (h : s.x ≠ 0) (hle : s.x ≤ s.d) : exec .fdiv s = .next (divideError true false s) :=
  (if_neg h).trans (if_pos hle)

theorem exec_fdiv_of_lt (h : s.d.toNat < s.x.toNat) :
    exec .fdiv s = .next (divided s (s.d.toNat * 65536 / s.x.toNat) (s.d.toNat * 65536 % s.x.toNat)) := by
  have hzero : s.x ≠ 0 := fun e => by rw [e] at h; exact absurd h (Nat.not_lt_zero _)
  exact (if_neg hzero).trans (if_neg (Nat.not_le.mpr h))

theorem divideFlags_flags (z v c : Bool) : (divideFlags z v c s).flag .z = z ∧ (divideFlags z v c s).flag .v = v ∧
    (divideFlags z v c s).flag .c = c := by
  simp [divideFlags]

/-- The error result: X is $FFFF, Z = 0, V and C as given. -/
theorem divideError_result (v c : Bool) : (divideError v c s).x = 0xFFFF ∧ (divideError v c s).flag .z = false ∧
    (divideError v c s).flag .v = v ∧ (divideError v c s).flag .c = c := ⟨rfl, divideFlags_flags _ _ _⟩

theorem writes_divided (q r : Nat) : Writes [.a, .b, .x] [.z, .v, .c] s (divided s q r) :=
  (writes_quotient s _ _).mono (by simp) (by simp)

/-- A quotient and a remainder that fit a word are in X and D. -/
theorem divided_result {q r : Nat} (hq : q < 65536) (hr : r < 65536) :
    (divided s q r).x.toNat = q ∧ (divided s q r).d.toNat = r ∧
      (divided s q r).flag .z = decide ((divided s q r).x = 0) ∧ (divided s q r).flag .v = false ∧
      (divided s q r).flag .c = false := by
  have hd : (divided s q r).d = BitVec.ofNat 16 r :=
    d_setD (s.setX (BitVec.ofNat 16 q)) _
  refine ⟨Nat.mod_eq_of_lt hq, ?_, divideFlags_flags _ _ _⟩
  rw [hd, BitVec.toNat_ofNat]
  exact Nat.mod_eq_of_lt hr

theorem divideError_frame (v c : Bool) : Keeps [.a, .b, .x] [.z, .v, .c] s (divideError v c s) ∧
    NoAccess s (divideError v c s) := ((writes_divideError s v c).mono (by simp) (by simp)).frame

theorem idiv_result : ∃ t, exec .idiv s = .next t ∧
    (s.x ≠ 0 → t.x.toNat = s.d.toNat / s.x.toNat ∧ t.d.toNat = s.d.toNat % s.x.toNat ∧
      t.flag .z = decide (t.x = 0) ∧ t.flag .c = false) ∧
    (s.x = 0 → t.x = 0xFFFF ∧ t.flag .z = false ∧ t.flag .c = true) ∧ t.flag .v = false ∧
    Keeps [.a, .b, .x] [.z, .v, .c] s t ∧ NoAccess s t := by
  by_cases h : s.x = 0
  · obtain ⟨hx, hz, hv, hc⟩ := divideError_result (s := s) false true
    exact ⟨_, exec_idiv_of_zero h, fun hne => absurd h hne, fun _ => ⟨hx, hz, hc⟩, hv, divideError_frame _ _⟩
  · have hq : s.d.toNat / s.x.toNat < 65536 := Nat.lt_of_le_of_lt (Nat.div_le_self _ _) s.d.isLt
    have hr : s.d.toNat % s.x.toNat < 65536 := Nat.lt_of_le_of_lt (Nat.mod_le _ _) s.d.isLt
    obtain ⟨hx, hd, hz, hv, hc⟩ := divided_result (s := s) hq hr
    exact ⟨_, exec_idiv_of_ne h, fun _ => ⟨hx, hd, hz, hc⟩, fun he => absurd he h, hv, (writes_divided _ _).frame⟩

theorem fdiv_result : ∃ t, exec .fdiv s = .next t ∧
    (s.d.toNat < s.x.toNat → t.x.toNat = s.d.toNat * 65536 / s.x.toNat ∧
      t.d.toNat = s.d.toNat * 65536 % s.x.toNat ∧ t.flag .z = decide (t.x = 0) ∧ t.flag .v = false ∧
      t.flag .c = false) ∧
    (s.x.toNat ≤ s.d.toNat → t.x = 0xFFFF ∧ t.flag .z = false ∧ t.flag .v = true ∧ t.flag .c = decide (s.x = 0)) ∧
    Keeps [.a, .b, .x] [.z, .v, .c] s t ∧ NoAccess s t := by
  by_cases hlt : s.d.toNat < s.x.toNat
  · have hpos : 0 < s.x.toNat := by omega
    have hq : s.d.toNat * 65536 / s.x.toNat < 65536 := (Nat.div_lt_iff_lt_mul hpos).mpr (by omega)
    have hr : s.d.toNat * 65536 % s.x.toNat < 65536 := Nat.lt_trans (Nat.mod_lt _ hpos) s.x.isLt
    exact ⟨_, exec_fdiv_of_lt hlt, fun _ => divided_result hq hr, fun hle => absurd hlt (Nat.not_lt.mpr hle),
      (writes_divided _ _).frame⟩
  · have hle : s.x.toNat ≤ s.d.toNat := Nat.not_lt.mp hlt
    by_cases h : s.x = 0
    · refine ⟨_, exec_fdiv_of_zero h, fun h' => absurd h' hlt, fun _ => ?_, divideError_frame _ _⟩
      rw [decide_eq_true h]
      exact divideError_result _ _
    · refine ⟨_, exec_fdiv_of_le h hle, fun h' => absurd h' hlt, fun _ => ?_, divideError_frame _ _⟩
      rw [decide_eq_false h]
      exact divideError_result _ _

/-- Settles O40. -/
theorem multiplyAndDivide : Obligations.MultiplyAndDivide := by
  unfold Obligations.MultiplyAndDivide
  refine fun s => ⟨?mul, idiv_result, fdiv_result⟩
  have hd : ((s.setD (zext16 s.a * zext16 s.b)).setFlag .c ((zext16 s.a * zext16 s.b).getLsbD 7)).d =
      zext16 s.a * zext16 s.b := d_setD s _
  refine ⟨_, rfl, ?_, ?_, ((writes_setD s _).trans (writes_setFlag _ .c _)).frame⟩
  · rw [hd, zext16_mul_toNat]
  · rw [hd]
    exact State.flag_setFlag _ .c .c _

end

/-! ### Decimal adjust -/

theorem ite_toNat (b : Bool) (v : Byte) : (if b then v else 0x00).toNat = if b then v.toNat else 0 := by cases b <;> rfl

theorem daaResult_toNat (a : Byte) (h c : Bool) : (daaResult a h c).toNat =
    (a.toNat + (if daaLow a h then 6 else 0) + (if daaHigh a c then 96 else 0)) % 256 := by
  rw [daaResult, BitVec.toNat_add, BitVec.toNat_add, ite_toNat, ite_toNat, Nat.mod_add_mod]
  rfl

/-- The result and the flags of DAA; V is free. -/
def daaFlags (s : State) : Arith 8 :=
  { r := daaResult s.a (s.flag .h) (s.flag .c), n := flagN (daaResult s.a (s.flag .h) (s.flag .c)),
    z := flagZ (daaResult s.a (s.flag .h) (s.flag .c)), v := (drawBit s).1, c := daaHigh s.a (s.flag .c) }

theorem exec_daa (s : State) :
    exec .daa s = .next (((s.setDraws (s.draws + 1)).setA (daaFlags s).r).setNZVC (daaFlags s)) := rfl

/-- Settles O41. -/
theorem decimalAdjust : Obligations.DecimalAdjust := by
  unfold Obligations.DecimalAdjust
  intro s
  have frame := ((writes_setDraws s (s.draws + 1)).trans (writes_setA _ (daaFlags s).r)).trans
    (writes_setNZVC _ (daaFlags s))
  exact ⟨_, exec_daa s, ⟨daaResult_toNat s.a _ _, State.flag_setNZVC _ _ .c⟩, nzof_setNZVC _ rfl rfl, frame.frame⟩

/-- The correction, on the sum of the high digits and the sum of the low digits, each with what the addition leaves in H and
C: two digits and a hundred. -/
theorem bcd_correction : ∀ high < 19, ∀ low < 20,
    let r := (16 * high + low) % 256
    let h := decide (16 ≤ low)
    let c := decide (256 ≤ 16 * high + low)
    let fixLow := h || decide (9 < r % 16)
    let fixHigh := c || decide (9 < r / 16) || (decide (9 ≤ r / 16) && decide (9 < r % 16))
    (r + (if fixLow then 6 else 0) + (if fixHigh then 96 else 0)) % 256 =
      16 * ((10 * high + low) / 10 % 10) + (10 * high + low) % 10 ∧ fixHigh = decide (100 ≤ 10 * high + low) := by
  decide

theorem packBcd_toNat {tens units : Nat} (ht : tens < 10) (hu : units < 10) :
    (packBcd tens units).toNat = 16 * tens + units := Nat.mod_eq_of_lt (by omega)

/-- DAA after an addition of packed-BCD bytes with a carry in. -/
theorem daa_after_sum {t : State} {a b : Byte} {p q m n : Nat} {cin : Bool} (hp : p < 10) (hq : q < 10) (hm : m < 10)
    (hn : n < 10) (ha : a = packBcd p q) (hb : b = packBcd m n) (hsum : IsSum a b cin t.a t) (hhalf : IsHalf a b cin t) :
    ∃ u, exec .daa t = .next u ∧
      (let sum := 10 * p + q + (10 * m + n) + cin.toNat
       u.a = packBcd (sum / 10 % 10) (sum % 10) ∧ u.flag .c = decide (100 ≤ sum)) := by
  obtain ⟨u, hexec, ⟨hresult, hcarry⟩, -⟩ := decimalAdjust t
  obtain ⟨hr, -, hc, -⟩ := hsum
  have hcin := cin.toNat_le
  have hlow : q + n + cin.toNat < 20 := by omega
  have digits : a.toNat + b.toNat + cin.toNat = 16 * (p + m) + (q + n + cin.toNat) := by
    rw [ha, hb, packBcd_toNat hp hq, packBcd_toNat hm hn]; ring
  have halves : a.toNat % 16 + b.toNat % 16 + cin.toNat = q + n + cin.toNat := by
    rw [ha, hb, packBcd_toNat hp hq, packBcd_toNat hm hn]; omega
  have hsumdigits : 10 * p + q + (10 * m + n) + cin.toNat = 10 * (p + m) + (q + n + cin.toNat) := by ring
  rw [IsHalf, halves] at hhalf
  rw [digits] at hr hc
  rw [hhalf, hc, hr] at hresult
  rw [hc, hr] at hcarry
  obtain ⟨hvalue, hhundred⟩ := bcd_correction (p + m) (by omega) (q + n + cin.toNat) hlow
  refine ⟨u, hexec, ?_⟩
  rw [hsumdigits]
  refine ⟨BitVec.eq_of_toNat_eq ?_, hcarry.trans hhundred⟩
  rw [packBcd_toNat (by omega) (by omega), ← hvalue]
  exact hresult

/-- Settles O42: the digit sums of an addition reach `bcd_correction` through the sum, C and H of O20. -/
theorem decimalAddition : Obligations.DecimalAddition := by
  unfold Obligations.DecimalAddition
  intro s p q m n hp hq hm hn ha
  obtain ⟨haba, hadda, -, hadca, -⟩ := addsBytes s (.imm (packBcd m n))
  refine ⟨?adca, ?adda, fun hb => ?aba⟩
  case adca =>
    obtain ⟨t, hexec, hsum, hhalf, -⟩ := hadca
    obtain ⟨u, hdaa, hresult⟩ := daa_after_sum hp hq hm hn ha rfl hsum hhalf
    exact ⟨t, u, hexec, hdaa, hresult⟩
  case adda =>
    obtain ⟨t, hexec, hsum, hhalf, -⟩ := hadda
    obtain ⟨u, hdaa, hresult⟩ := daa_after_sum hp hq hm hn ha rfl hsum hhalf
    exact ⟨t, u, hexec, hdaa, hresult⟩
  case aba =>
    obtain ⟨t, hexec, hsum, hhalf, -⟩ := haba
    obtain ⟨u, hdaa, hresult⟩ := daa_after_sum hp hq hm hn ha hb hsum hhalf
    exact ⟨t, u, hexec, hdaa, hresult⟩

end Sys2Proof.Claims
end

section
/-! CERTIFICATE. Entries and the return (60_exceptions.md sections 3 to 5): what an entry with a RAM stack and a mapped vector
leaves, SWI, WAI, STOP and TEST, and RTI; O46 to O51. -/

namespace Sys2Proof.Claims

open Sys2Proof.Machine Host

/-! ### Entries -/

section
variable {src : TrapSource} {s : State}

/-- An entry with a mapped vector: the frame, the masks, PC from the bytes at the vector, nothing else. -/
theorem trapEntry_of_mapped (h : VectorMapped src s) (r : Word) (k : Bool) :
    trapEntry src r k s = (((((if k then pushFrame r s else s).setCcr (entryMask src s.ccr)).setIrqInhibit false).setPc
      (cat16 ((if k then pushFrame r s else s).stored (trapVector src))
        ((if k then pushFrame r s else s).stored (trapVector src + 1)))).setRun .running) := by
  have hcfg : (if k then pushFrame r s else s).cfg = s.cfg := by cases k <;> simp
  have hccr : (if k then pushFrame r s else s).ccr = s.ccr := by cases k <;> simp
  unfold trapEntry
  dsimp only
  rw [memRead16_eq_stored (by rw [State.setIrqInhibit_cfg, State.setCcr_cfg, hcfg]; exact h.1)
    (by rw [State.setIrqInhibit_cfg, State.setCcr_cfg, hcfg]; exact h.2), hccr]
  rfl

theorem goesToHandler_trapEntry (h : VectorMapped src s) (r : Word) (k : Bool) :
    GoesToHandler src s (trapEntry src r k s) := by
  refine ⟨by simp, ?x, fun f hi hx => ?flags, by simp, by simp, ?pc, by simp, by simp, by simp, by simp, by simp, by simp,
    by simp, by simp⟩
  case x => by_cases hsrc : src = .xirq <;> simp [hsrc]
  case flags => rw [trapEntry_flag, if_neg hi, if_neg fun e => hx e.1]
  case pc => rw [trapEntry_of_mapped h]; rfl

theorem stacksFrame_of_pushFrame {t : State} {r : Word} (hinv : s.Inv) (hram : ∀ a ∈ frameAt s, IsRam s a)
    (hmem : t.mem = (pushFrame r s).mem) (hsp : t.sp = s.sp - 9) (hio : t.io = s.io) : StacksFrame r s t := by
  have hstored : ∀ a, t.stored a = (pushFrame r s).stored a := KeepsMemory.of_mem_eq hmem
  refine ⟨?_, fun a ha => (hstored a).trans (pushFrame_stored_ne r s ha), hsp, hio⟩
  obtain ⟨h0, h1, h2, h3, h4, h5, h6, h7, h8⟩ := pushFrame_stored r hram hinv.1
  simp only [frameBytes, List.forall_mem_cons, hstored]
  exact ⟨h0, h1, h2, h3, h4, h5, h6, h7, h8, by simp⟩

/-- A full entry (R455). -/
theorem entersHandler_trapEntry (h : EntryReady src s) (r : Word) :
    EntersHandler src r s (trapEntry src r true s) := by
  obtain ⟨hinv, hram, hvector⟩ := h
  refine ⟨stacksFrame_of_pushFrame hinv hram (trapEntry_mem src r true s) (trapEntry_sp src r true s) ?_,
    goesToHandler_trapEntry hvector r true⟩
  rw [trapEntry_io hvector.1 hvector.2, if_pos rfl]
  exact pushFrame_io r hram

/-- The illegal opcode trap is the shared entry, with the return address the parameter says (R460). -/
theorem illegalOpcode_eq (pc0 : Word) (s : State) : illegalOpcode pc0 s =
    trapEntry .ill (if s.cfg.illopReturnPc = .opcodeAddress then pc0 else s.pc) true s := by
  unfold illegalOpcode
  cases s.cfg.illopReturnPc <;> rfl

end

/-- Settles O46. -/
theorem softwareInterrupt : Obligations.SoftwareInterrupt := by
  unfold Obligations.SoftwareInterrupt
  refine ⟨fun s h => ⟨_, rfl, entersHandler_trapEntry h s.pc⟩, fun s => ⟨_, rfl, ?_⟩⟩
  exact ⟨trapEntry_sp .swi s.pc true s, by simp, trapEntry_run _ _ _ s, trapEntry_irqInhibit _ _ _ s,
    keepsData_trapEntry s .swi s.pc true (by simp) nofun⟩

theorem keepsData_wai (s : State) : KeepsData [.sp] [] s ((pushFrame s.pc s).setRun .waiting) :=
  (keeps_pushFrame s s.pc).1.trans (keepsData_setRun _ _)

/-- Settles O47. -/
theorem waitInstruction : Obligations.WaitInstruction := by
  unfold Obligations.WaitInstruction
  refine ⟨fun s hinv hram => ⟨(pushFrame s.pc s).setRun .waiting, rfl, ?_, by simp, by simp, by simp, keepsData_wai s⟩,
    fun s => ⟨(pushFrame s.pc s).setRun .waiting, rfl, by simp, by simp, by simp, by simp, keepsData_wai s⟩⟩
  exact stacksFrame_of_pushFrame hinv hram (by simp) (by simp) (by simpa using pushFrame_io s.pc hram)

theorem exec_stop (s : State) : exec .stop s = .next (if s.flag .s then s else s.setRun .stopped) := rfl

theorem exec_test_of_specialTest {s : State} (h : s.cfg.mode = .specialTest) : exec .test s = .next (s.setRun .hung) := by
  simp only [exec, execTest, h]

theorem exec_test_of_normal {s : State} (h : s.cfg.mode = .normal) : exec .test s = .next (illegalOpcode (s.pc - 1) s) := by
  simp only [exec, execTest, h]

/-- Settles O48. -/
theorem stopAndTest : Obligations.StopAndTest := by
  unfold Obligations.StopAndTest
  refine fun s => ⟨fun h => ?_, fun h => ?_, exec_test_of_specialTest, fun h hready =>
    ⟨_, exec_test_of_normal h, illegalOpcode_eq _ s ▸ entersHandler_trapEntry hready _⟩⟩
  · rw [exec_stop, h]; rfl
  · rw [exec_stop, h]; rfl

/-! ### The vectors -/

/-- Every source of the shared entry sequence. -/
def allSources : List TrapSource := .xirq :: .swi :: .ill :: maskableOrder.map .maskable

theorem mem_maskableOrder (m : Maskable) : m ∈ maskableOrder := by cases m <;> decide

theorem mem_allSources (src : TrapSource) : src ∈ allSources := by
  cases src with
  | maskable m => simp [allSources, mem_maskableOrder m]
  | _ => simp [allSources]

theorem trapVector_inj_of_mem : ∀ p ∈ allSources, ∀ q ∈ allSources, trapVector p = trapVector q → p = q := by decide

theorem trapVector_injective {p q : TrapSource} (h : trapVector p = trapVector q) : p = q :=
  trapVector_inj_of_mem p (mem_allSources p) q (mem_allSources q) h

theorem trapVector_ne_of_mem : ∀ p ∈ allSources, ∀ c ∈ resetOrder, trapVector p ≠ resetVector c := by decide

/-- Settles O49. -/
theorem vectorTable : Obligations.VectorTable := by
  unfold Obligations.VectorTable
  exact ⟨rfl, rfl, fun _ _ => trapVector_injective, fun p c =>
    trapVector_ne_of_mem p (mem_allSources p) c (by cases c <;> decide)⟩

/-! ### The return -/

section
variable {s t : State}

theorem pullCcr_at (h : IsMem t (t.sp + 1)) :
    pullCcr t = (t.setSp (t.sp + 1)).setCcr (ccrLoad t.ccr (t.stored (t.sp + 1))) := by
  rw [pullCcr, pull8_of_isMem h]

theorem pullB_at (h : IsMem t (t.sp + 1)) : pullB t = (t.setSp (t.sp + 1)).setB (t.stored (t.sp + 1)) := by
  rw [pullB, pull8_of_isMem h]

theorem pullA_at (h : IsMem t (t.sp + 1)) : pullA t = (t.setSp (t.sp + 1)).setA (t.stored (t.sp + 1)) := by
  rw [pullA, pull8_of_isMem h]

theorem pullX_at (h : IsMem t (t.sp + 1)) (l : IsMem t (t.sp + 2)) :
    pullX t = (t.setSp (t.sp + 2)).setX (cat16 (t.stored (t.sp + 1)) (t.stored (t.sp + 2))) := by
  rw [pullX, pull16_of_isMem h l]

theorem pullY_at (h : IsMem t (t.sp + 1)) (l : IsMem t (t.sp + 2)) :
    pullY t = (t.setSp (t.sp + 2)).setY (cat16 (t.stored (t.sp + 1)) (t.stored (t.sp + 2))) := by
  rw [pullY, pull16_of_isMem h l]

theorem pullPc_at (h : IsMem t (t.sp + 1)) (l : IsMem t (t.sp + 2)) :
    pullPc t = (t.setSp (t.sp + 2)).setPc (cat16 (t.stored (t.sp + 1)) (t.stored (t.sp + 2))) := by
  rw [pullPc, pull16_of_isMem h l]

/-- The nine bytes above SP are RAM or ROM. -/
def FrameMapped (s : State) : Prop :=
  IsMem s (s.sp + 1) ∧ IsMem s (s.sp + 2) ∧ IsMem s (s.sp + 3) ∧ IsMem s (s.sp + 4) ∧ IsMem s (s.sp + 5) ∧
    IsMem s (s.sp + 6) ∧ IsMem s (s.sp + 7) ∧ IsMem s (s.sp + 8) ∧ IsMem s (s.sp + 9)

/-- RTI from a frame in memory, whole. -/
theorem returnFromInterrupt_of_mapped (h : FrameMapped s) :
    returnFromInterrupt s =
      { s with
        ccr := ccrLoad s.ccr (s.stored (s.sp + 1)), b := s.stored (s.sp + 2), a := s.stored (s.sp + 3),
        x := cat16 (s.stored (s.sp + 4)) (s.stored (s.sp + 5)), y := cat16 (s.stored (s.sp + 6)) (s.stored (s.sp + 7)),
        pc := cat16 (s.stored (s.sp + 8)) (s.stored (s.sp + 9)), sp := s.sp + 9 } := by
  obtain ⟨h1, h2, h3, h4, h5, h6, h7, h8, h9⟩ := h
  have e : ∀ m n : Word, s.sp + m + n = s.sp + (m + n) := BitVec.add_assoc s.sp
  unfold returnFromInterrupt
  rw [pullCcr_at h1, pullB_at (by simpa [IsMem, e] using h2), pullA_at (by simpa [IsMem, e] using h3),
    pullX_at (by simpa [IsMem, e] using h4) (by simpa [IsMem, e] using h5),
    pullY_at (by simpa [IsMem, e] using h6) (by simpa [IsMem, e] using h7),
    pullPc_at (by simpa [IsMem, e] using h8) (by simpa [IsMem, e] using h9)]
  simp [State.ext_iff, e]

/-- With no event left in the timer's script the read of a pull leaves the register block and the script alone. -/
theorem memRead_silent (a : Word) (h : s.busScript = []) :
    (memRead a s).2.io = s.io ∧ (memRead a s).2.busScript = [] := by
  refine ⟨memRead_io_silent a h, ?_⟩
  unfold memRead
  split
  · exact h
  · exact h
  · exact h
  · simp only [logEvent, State.setEvents_busScript]
    rw [ioGet_frame, busTurn_nil h, h]

theorem pull8_silent (h : s.busScript = []) : (pull8 s).2.io = s.io ∧ (pull8 s).2.busScript = [] :=
  memRead_silent (s := s.setSp (s.sp + 1)) _ h

theorem pull16_silent (h : s.busScript = []) : (pull16 s).2.io = s.io ∧ (pull16 s).2.busScript = [] := by
  obtain ⟨hio, hbus⟩ := pull8_silent h
  obtain ⟨hio', hbus'⟩ := pull8_silent hbus
  exact ⟨hio'.trans hio, hbus'⟩

theorem pullA_silent (h : s.busScript = []) : (pullA s).io = s.io ∧ (pullA s).busScript = [] := pull8_silent h
theorem pullB_silent (h : s.busScript = []) : (pullB s).io = s.io ∧ (pullB s).busScript = [] := pull8_silent h
theorem pullX_silent (h : s.busScript = []) : (pullX s).io = s.io ∧ (pullX s).busScript = [] := pull16_silent h
theorem pullY_silent (h : s.busScript = []) : (pullY s).io = s.io ∧ (pullY s).busScript = [] := pull16_silent h
theorem pullPc_silent (h : s.busScript = []) : (pullPc s).io = s.io ∧ (pullPc s).busScript = [] := pull16_silent h
theorem pullCcr_silent (h : s.busScript = []) : (pullCcr s).io = s.io ∧ (pullCcr s).busScript = [] := pull8_silent h

theorem returnFromInterrupt_io_silent (h : s.busScript = []) : (returnFromInterrupt s).io = s.io := by
  obtain ⟨h1, b1⟩ := pullCcr_silent h
  obtain ⟨h2, b2⟩ := pullB_silent b1
  obtain ⟨h3, b3⟩ := pullA_silent b2
  obtain ⟨h4, b4⟩ := pullX_silent b3
  obtain ⟨h5, b5⟩ := pullY_silent b4
  obtain ⟨h6, -⟩ := pullPc_silent b5
  rw [returnFromInterrupt, h6, h5, h4, h3, h2, h1]

end

/-- Settles O50. -/
protected theorem returnFromInterrupt : Obligations.ReturnFromInterrupt := by
  unfold Obligations.ReturnFromInterrupt
  refine ⟨fun s hmapped => ?mapped, fun s => ?anywhere⟩
  case mapped =>
    have frame : FrameMapped s := ⟨hmapped 1 (by simp) (by simp), hmapped 2 (by simp) (by simp),
      hmapped 3 (by simp) (by simp), hmapped 4 (by simp) (by simp), hmapped 5 (by simp) (by simp),
      hmapped 6 (by simp) (by simp), hmapped 7 (by simp) (by simp), hmapped 8 (by simp) (by simp),
      hmapped 9 (by simp) (by simp)⟩
    have hkeeps := keeps_returnFromInterrupt s
    rw [returnFromInterrupt_of_mapped frame] at hkeeps
    refine ⟨_, congrArg Outcome.next (returnFromInterrupt_of_mapped frame), fun f hf => ?_, ?_, rfl, rfl, rfl, rfl, rfl, rfl,
      hkeeps.1, rfl, rfl, fun _ => rfl, rfl, rfl, rfl⟩
    · exact (ccrGet_ccrLoad s.ccr _ f).trans (if_neg hf)
    · exact ccrGet_ccrLoad s.ccr _ .x
  case anywhere =>
    refine ⟨returnFromInterrupt s, rfl, by simp, fun hx => ?_, KeepsMemory.of_mem_eq (by simp),
      returnFromInterrupt_io_silent, by simp, by simp, by simp, by simp, by simp⟩
    rw [returnFromInterrupt_x, hx, Bool.false_and]

/-- The stacked CCR under the masks an entry has set is the CCR before it: RTI takes every bit but X from the stack, and an
entry leaves X at 1 wherever the stacked X is 1. -/
theorem ccrLoad_entryMask (src : TrapSource) (c : Byte) : ccrLoad (entryMask src c) c = c :=
  ccr_ext fun f => by
    rw [ccrGet_ccrLoad]
    split
    · next hf =>
      rw [ccrGet_entryMask, if_neg (by decide), hf]
      split
      · exact Bool.true_and _
      · exact Bool.and_self _
    · rfl

/-- RTI on any state in which a frame of `s` is stacked and whose masks let the stacked CCR through. -/
theorem returnFromInterrupt_of_stacksFrame {s t : State} {r : Word} (hframe : StacksFrame r s t)
    (hram : ∀ a ∈ frameAt s, IsRam s a) (hcfg : t.cfg = s.cfg) (hccr : ccrLoad t.ccr s.ccr = s.ccr) :
    returnFromInterrupt t =
      { t with ccr := s.ccr, b := s.b, a := s.a, x := s.x, y := s.y, pc := r, sp := s.sp } := by
  obtain ⟨hbytes, -, hsp, -⟩ := hframe
  simp only [frameBytes, frameAt, List.forall_mem_cons] at hbytes hram
  obtain ⟨p0, p1, p2, p3, p4, p5, p6, p7, p8, -⟩ := hbytes
  obtain ⟨r0, r1, r2, r3, r4, r5, r6, r7, r8, -⟩ := hram
  have places : t.sp + 1 = s.sp - 8 ∧ t.sp + 2 = s.sp - 7 ∧ t.sp + 3 = s.sp - 6 ∧ t.sp + 4 = s.sp - 5 ∧
      t.sp + 5 = s.sp - 4 ∧ t.sp + 6 = s.sp - 3 ∧ t.sp + 7 = s.sp - 2 ∧ t.sp + 8 = s.sp - 1 ∧ t.sp + 9 = s.sp := by
    rw [hsp]
    refine ⟨?_, ?_, ?_, ?_, ?_, ?_, ?_, ?_, ?_⟩ <;> bv_omega
  obtain ⟨e1, e2, e3, e4, e5, e6, e7, e8, e9⟩ := places
  have mapped : FrameMapped t := by
    simp only [FrameMapped, IsMem, hcfg, e1, e2, e3, e4, e5, e6, e7, e8, e9]
    exact ⟨.inl r8, .inl r7, .inl r6, .inl r5, .inl r4, .inl r3, .inl r2, .inl r1, .inl r0⟩
  rw [returnFromInterrupt_of_mapped mapped, e1, e2, e3, e4, e5, e6, e7, e8, e9, p0, p1, p2, p3, p4, p5, p6, p7, p8,
    cat16_hi_lo, cat16_hi_lo, cat16_hi_lo, hccr]

/-- Settles O51. -/
theorem returnUndoesEntry : Obligations.ReturnUndoesEntry := by
  unfold Obligations.ReturnUndoesEntry
  intro s src r hready
  have hframe := (entersHandler_trapEntry hready r).1
  have hreturn := returnFromInterrupt_of_stacksFrame hframe hready.2.1 (trapEntry_cfg src r true s)
    (by rw [trapEntry_ccr, ccrLoad_entryMask])
  generalize trapEntry src r true s = t at hframe hreturn ⊢
  obtain ⟨-, honly, -, hio⟩ := hframe
  exact ⟨_, congrArg Outcome.next hreturn, rfl, rfl, rfl, rfl, rfl, rfl, rfl, honly, hio⟩

end Sys2Proof.Claims
end

section
/-! CERTIFICATE. The step (60_exceptions.md R453): the order of its cases, which request is accepted, resets, waiting and
stopped machines; O10 to O18. -/

namespace Sys2Proof.Claims

open Sys2Proof.Machine Host

/-! ### The order of the cases -/

/-- Settles O11. -/
theorem stepOrder : Obligations.StepOrder := by
  unfold Obligations.StepOrder
  rintro s u rfl
  refine ⟨fun c h => ?_, fun h hrun => ?_, fun h hrun => ?_, fun h hrun => ?_, fun h hrun src hsel => ?_,
    fun h hrun hsel => ?_⟩
  · simp only [step, cpuStep, h]
  · simp only [step, cpuStep, h, hrun]
  · simp only [step, cpuStep, h, hrun]
  · simp only [step, cpuStep, h, hrun]
  · simp only [step, cpuStep, h, hrun, runStep, hsel]
  · simp only [step, cpuStep, h, hrun, runStep, hsel]

/-- Settles O4. -/
theorem stepRunsDecoded : Obligations.StepRunsDecoded := by
  unfold Obligations.StepRunsDecoded
  intro s u i n henv htop hrun hsel hdec
  obtain ⟨-, -, -, -, -, hinstr⟩ := stepOrder s u henv
  rw [hinstr htop hrun hsel]
  simp only [runInstr, hdec]

/-- Settles O14. -/
theorem interruptEntry : Obligations.InterruptEntry := by
  unfold Obligations.InterruptEntry
  intro s src henv htop hrun hsel hready
  obtain ⟨-, -, -, -, hentry, -⟩ := stepOrder s s henv
  exact ⟨_, hentry htop hrun src hsel, entersHandler_trapEntry hready s.pc⟩

/-! ### Which request is accepted -/

/-- In a list that holds every element, sorted downwards by an injective measure, the first element with a property is the
one of greatest measure. -/
theorem find?_eq_some_iff_greatest {α : Type} {l : List α} {f : α → Nat} (hmem : ∀ a, a ∈ l)
    (hsorted : l.Pairwise fun a b => f b ≤ f a) (hinj : ∀ a b, f a = f b → a = b) (p : α → Bool) (m : α) :
    l.find? p = some m ↔ p m = true ∧ ∀ k, p k = true → f k ≤ f m := by
  have greatest : ∀ n, l.find? p = some n → p n = true ∧ ∀ k, p k = true → f k ≤ f n := by
    intro n hn
    obtain ⟨hpn, before, after, rfl, hbefore⟩ := List.find?_eq_some_iff_append.1 hn
    refine ⟨hpn, fun k hk => ?_⟩
    rcases List.mem_append.1 (hmem k) with hk' | hk'
    · exact absurd hk (by simpa using hbefore k hk')
    · rcases List.mem_cons.1 hk' with rfl | hk'
      · exact Nat.le_refl _
      · exact List.rel_of_pairwise_cons (List.pairwise_append.1 hsorted).2.1 hk'
  refine ⟨greatest m, fun ⟨hpm, hmax⟩ => ?_⟩
  cases hfind : l.find? p with
  | none => exact absurd hpm (List.find?_eq_none.1 hfind m (hmem m))
  | some n =>
    obtain ⟨hpn, hmax'⟩ := greatest n hfind
    rw [hinj n m (Nat.le_antisymm (hmax n hpn) (hmax' m hpm))]

theorem maskableVector_injective {m k : Maskable} (h : (maskableVector m).toNat = (maskableVector k).toNat) : m = k :=
  TrapSource.maskable.inj (trapVector_injective (p := .maskable m) (q := .maskable k) (BitVec.eq_of_toNat_eq h))

theorem rank_injective (promoted : Option Maskable) (m k : Maskable) (h : rank promoted m = rank promoted k) : m = k := by
  have hm := (maskableVector m).isLt
  have hk := (maskableVector k).isLt
  unfold rank at h
  split at h <;> split at h
  · next hm' hk' => exact Option.some.inj (hm'.symm.trans hk')
  · omega
  · omega
  · exact maskableVector_injective h

/-- The fixed order is by vector address. -/
theorem maskableOrder_sorted :
    maskableOrder.Pairwise fun m k => (maskableVector k).toNat ≤ (maskableVector m).toNat := by decide

theorem rank_of_not_promoted {promoted : Option Maskable} {m : Maskable} (h : promoted ≠ some m) :
    rank promoted m = (maskableVector m).toNat := if_neg h

/-- The promoted source outranks every other. -/
theorem rank_le_rank_promoted (k m : Maskable) : rank (some k) m ≤ rank (some k) k := by
  have hm := (maskableVector m).isLt
  have hk : rank (some k) k = 65536 := if_pos rfl
  by_cases h : some k = some m
  · rw [Option.some.inj h]
  · rw [rank_of_not_promoted h, hk]
    omega

theorem find?_maskableOrder_eq_some_iff (p : Maskable → Bool) (m : Maskable) : maskableOrder.find? p = some m ↔
    p m = true ∧ ∀ k, p k = true → (maskableVector k).toNat ≤ (maskableVector m).toNat :=
  find?_eq_some_iff_greatest mem_maskableOrder maskableOrder_sorted (fun _ _ => maskableVector_injective) p m

theorem topMaskable_eq_some_iff (s : State) (m : Maskable) : topMaskable s = some m ↔
    requested s m = true ∧ ∀ k, requested s k = true → rank s.cfg.promotedSource k ≤ rank s.cfg.promotedSource m := by
  unfold topMaskable
  cases s.cfg.promotedSource with
  | none =>
    have byVector : ∀ k, rank none k = (maskableVector k).toNat := fun k => rank_of_not_promoted nofun
    simp only [byVector]
    exact find?_maskableOrder_eq_some_iff _ m
  | some k =>
    cases hk : requested s k with
    | true =>
      have first : (priorityOrder (some k)).find? (requested s) = some k := List.find?_cons_of_pos hk
      rw [first]
      refine ⟨fun h => ?_, fun ⟨_, hmax⟩ => ?_⟩
      · obtain rfl := Option.some.inj h
        exact ⟨hk, fun j _ => rank_le_rank_promoted k j⟩
      · rw [rank_injective (some k) k m (Nat.le_antisymm (hmax k hk) (rank_le_rank_promoted k m))]
    | false =>
      have skipped : (priorityOrder (some k)).find? (requested s) = maskableOrder.find? (requested s) :=
        List.find?_cons_of_neg (by simp [hk])
      have unpromoted : ∀ j, requested s j = true → rank (some k) j = (maskableVector j).toNat := fun j hj =>
        rank_of_not_promoted fun h => by rw [Option.some.inj h, hj] at hk; cases hk
      rw [skipped, find?_maskableOrder_eq_some_iff]
      refine and_congr_right fun hm => forall₂_congr fun j hj => ?_
      rw [unpromoted j hj, unpromoted m hm]

theorem select_of_not_xirq {s : State} (h : ¬(Line.xirq ∈ s.lines ∧ s.flag .x = false)) :
    select s = if s.flag .i || s.irqInhibit then none else (topMaskable s).map .maskable := by
  unfold select xirqRequested
  exact if_neg (by simpa using h)

theorem select_eq_maskable_iff (s : State) (m : Maskable) : select s = some (.maskable m) ↔
    ¬(Line.xirq ∈ s.lines ∧ s.flag .x = false) ∧ s.flag .i = false ∧ s.irqInhibit = false ∧ topMaskable s = some m := by
  by_cases h : Line.xirq ∈ s.lines ∧ s.flag .x = false
  · rw [(select_eq_xirq_iff s).2 h]
    simp [h]
  · rw [select_of_not_xirq h]
    cases s.flag .i <;> cases s.irqInhibit <;> simp [h]

/-- Settles O12. -/
theorem selectPriority : Obligations.SelectPriority := by
  unfold Obligations.SelectPriority
  intro s
  have maskable_or_xirq : ∀ src, select s = some src → src = .xirq ∨ ∃ m, src = .maskable m := by
    intro src hsel
    by_cases h : Line.xirq ∈ s.lines ∧ s.flag .x = false
    · rw [(select_eq_xirq_iff s).2 h] at hsel
      exact .inl (Option.some.inj hsel).symm
    · rw [select_of_not_xirq h] at hsel
      split at hsel
      · cases hsel
      · obtain ⟨m, -, hm⟩ := Option.map_eq_some_iff.1 hsel
        exact .inr ⟨m, hm.symm⟩
  refine ⟨select_eq_xirq_iff s, fun m => ?_, fun h => ?_, fun h => ?_⟩
  · rw [select_eq_maskable_iff, topMaskable_eq_some_iff]
  · simpa using maskable_or_xirq _ h
  · simpa using maskable_or_xirq _ h

/-- Settles O13: each source's bit or line, by R474 and R452. -/
theorem pendingSources : Obligations.PendingSources := by
  unfold Obligations.PendingSources
  exact fun s => ⟨rfl, rfl, rfl, rfl, rfl, rfl, rfl, rfl, decide_eq_true_iff, decide_eq_true_iff, decide_eq_true_iff,
    decide_eq_true_iff, decide_eq_true_iff, decide_eq_true_iff, decide_eq_true_iff⟩

/-- Settles O10. -/
theorem resetState : Obligations.ResetState := by
  unfold Obligations.ResetState
  exact ⟨rfl, rfl, rfl, rfl, rfl, rfl, rfl, fun m => by cases m <;> rfl⟩

/-- Settles O18. -/
theorem inhibitHoldsOneInstruction : Obligations.InhibitHoldsOneInstruction := by
  unfold Obligations.InhibitHoldsOneInstruction
  intro s henv htop hrun hinhibit hxirq
  obtain ⟨-, -, -, -, -, hinstr⟩ := stepOrder s s henv
  exact hinstr htop hrun (by rw [select_of_not_xirq hxirq, hinhibit, Bool.or_true, if_pos rfl])

/-! ### Resets -/

/-- The asserted reset that outranks the others. -/
theorem topReset_eq_some {u : State} {c : ResetCause} (hc : c ∈ u.resets) (hreset : c ≠ .reset → .reset ∉ u.resets)
    (hcmf : c = .cop → .cmf ∉ u.resets) : topReset u = some c := by
  unfold topReset resetOrder
  cases c with
  | reset => simp [hc]
  | cmf => simp [hc, hreset nofun]
  | cop => simp [hc, hreset nofun, hcmf rfl]

/-- Settles O15. -/
theorem resetEvent : Obligations.ResetEvent := by
  unfold Obligations.ResetEvent
  intro s u c henv hc hreset hcmf hhigh hlow
  obtain ⟨hstep, -⟩ := stepOrder s u henv
  have read : memRead16 (resetVector c) (resetBase c u) =
      (cat16 (u.stored (resetVector c)) (u.stored (resetVector c + 1)), resetBase c u) := by
    rw [memRead16_eq_stored (by rw [resetBase_cfg]; exact hhigh) (by rw [resetBase_cfg]; exact hlow)]
    simp only [State.stored, resetBase_mem]
  have hresult := hstep c (topReset_eq_some hc hreset hcmf)
  rw [resetSequence_eq, read] at hresult
  obtain ⟨w, hccr⟩ := resetBase_ccr c u
  have masks : ∀ f : Flag, (0xD0 : Byte).getLsbD f.bit = true → (resetBase c u).flag f = true := fun f hf => by
    rw [State.flag, hccr, ccrGet, BitVec.getLsbD_or, hf, Bool.or_true]
  have htmsk1 := resetBase_tmsk1 c u
  have hlines := resetBase_lines c u
  have hcfg := resetBase_cfg c u
  have hmem := resetBase_mem c u
  have hresets : ∀ d, d ∈ (resetBase c u).resets ↔ d ∈ u.resets ∧ d ≠ c := fun d => by simp
  have hrun := resetBase_run c u
  have hinhibit := resetBase_irqInhibit c u
  generalize resetBase c u = v at *
  exact ⟨_, hresult, masks .s rfl, masks .x rfl, masks .i rfl, hrun, hinhibit, rfl, hmem, htmsk1, hlines, hcfg, hresets⟩

/-! ### Waiting and stopped machines -/

/-- An entry without stacking stores nothing and leaves the I/O side alone. -/
theorem noAccess_trapEntry_of_stacked {src : TrapSource} {u : State} (h : VectorMapped src u) (r : Word) :
    NoAccess u (trapEntry src r false u) := by
  rw [trapEntry_of_mapped h]
  exact ⟨fun _ => rfl, rfl, rfl, rfl⟩

/-- Settles O16. -/
theorem waitingMachine : Obligations.WaitingMachine := by
  unfold Obligations.WaitingMachine
  intro s u henv htop hrun
  obtain ⟨-, -, hwait, -⟩ := stepOrder s u henv
  rw [← selectUninhibited_eq_select, hwait htop hrun]
  refine ⟨fun src hsel hvector => ?wakes, fun hsel => ?waits⟩
  case wakes =>
    have hwoken : waitStep u = trapEntry src u.pc false u := by simp only [waitStep, hsel]
    rw [hwoken]
    exact ⟨_, rfl, noAccess_trapEntry_of_stacked hvector _, trapEntry_sp _ _ _ _, goesToHandler_trapEntry hvector _ _⟩
  case waits => rw [(waitStep_eq hrun).2 hsel]

theorem stopStep_of_xirq {u : State} (h : Line.xirq ∈ u.lines) :
    stopStep u = if u.flag .x then u.setRun .running else trapEntry .xirq u.pc true (u.setRun .running) :=
  if_pos (decide_eq_true h)

theorem stopStep_of_irq {u : State} (h : Line.xirq ∉ u.lines) (hirq : Line.irq ∈ u.lines) (hi : u.flag .i = false) :
    stopStep u = trapEntry (.maskable .irq) u.pc true (u.setRun .running) := by
  have hreq : requested u .irq = true := decide_eq_true hirq
  unfold stopStep xirqRequested
  rw [if_neg (by simpa using h), hreq, hi]
  rfl

/-- Settles O17. -/
theorem stoppedMachine : Obligations.StoppedMachine := by
  unfold Obligations.StoppedMachine
  intro s u henv htop hrun
  obtain ⟨-, -, -, hstop, -⟩ := stepOrder s u henv
  have hrunning : ∀ {src r}, EntryReady src u → EntersHandler src r u (trapEntry src r true (u.setRun .running)) :=
    fun h => entersHandler_trapEntry (s := u.setRun .running) h _
  rw [hstop htop hrun]
  refine ⟨?still, fun hx hmask hready => ?xirq, fun hx hmask => ?resume, fun hx hirq hi hready => ?irq, fun hx hirq => ?stays⟩
  case still =>
    subst henv
    exact envTurn_stopped_io (by rwa [envTurn_run] at hrun)
  case xirq =>
    rw [stopStep_of_xirq hx, hmask]
    exact ⟨_, rfl, hrunning hready⟩
  case resume =>
    rw [stopStep_of_xirq hx, hmask]
    rfl
  case irq =>
    rw [stopStep_of_irq hx hirq hi]
    exact ⟨_, rfl, hrunning hready⟩
  case stays =>
    have hreq : requested u .irq = false ∨ u.flag .i = true := by
      by_cases hi : u.flag .i = true
      · exact .inr hi
      · exact .inl (decide_eq_false fun h => hirq ⟨h, by simpa using hi⟩)
    rw [(stopStep_eq hrun).2 ⟨hx, hreq⟩]

end Sys2Proof.Claims
end

section
/-! CERTIFICATE. The holes of the opcode map (30_encoding.md section 5), and the fetch of an instruction that stands in
memory; O3, O5 and O6. -/

namespace Sys2Proof

open Sys2Proof.Machine

/-! ### The holes -/

theorem decodeOn_eq_illegal_iff {p : Page} {lead : Nat} {op : Byte} {bs : List Byte} :
    decodeOn p lead op bs = .error (.illegalOpcode p op) ↔ rowAt p op = none := by
  refine ⟨fun h => ?_, decodeOn_of_no_row⟩
  unfold decodeOn at h
  split at h
  · assumption
  · split at h <;> cases h

theorem rowAt_page0_eq_none_iff : ∀ op : Byte, prebytePage op = none → (rowAt .page0 op = none ↔
    op ∈ ([0x41, 0x42, 0x45, 0x4B, 0x4E, 0x51, 0x52, 0x55, 0x5B, 0x5E, 0x61, 0x62, 0x65, 0x6B, 0x71, 0x72, 0x75, 0x7B,
      0x87, 0xC7] : List Byte)) := by
  simp only [← Option.isNone_iff_eq_none]
  decide

theorem rowAt_page18_eq_none_iff : ∀ op : Byte, rowAt .page18 op = none ↔
    op ∉ ([0x08, 0x09, 0x1C, 0x1D, 0x1E, 0x1F, 0x30, 0x35, 0x38, 0x3A, 0x3C, 0x60, 0x63, 0x64, 0x66, 0x67, 0x68,
      0x69, 0x6A, 0x6C, 0x6D, 0x6E, 0x6F, 0x8C, 0x8F, 0x9C, 0xA0, 0xA1, 0xA2, 0xA3, 0xA4, 0xA5, 0xA6, 0xA7, 0xA8,
      0xA9, 0xAA, 0xAB, 0xAC, 0xAD, 0xAE, 0xAF, 0xBC, 0xCE, 0xDE, 0xDF, 0xE0, 0xE1, 0xE2, 0xE3, 0xE4, 0xE5, 0xE6,
      0xE7, 0xE8, 0xE9, 0xEA, 0xEB, 0xEC, 0xED, 0xEE, 0xEF, 0xFE, 0xFF] : List Byte) := by
  simp only [← Option.isNone_iff_eq_none]
  decide

/-- Settles O3. -/
theorem illegalEncodings : Obligations.IllegalEncodings := by
  unfold Obligations.IllegalEncodings
  refine ⟨fun op rest hpage => ?_, fun op rest => ?_, fun op rest => ?_, fun op rest => ?_⟩
  · rw [decode_of_not_prebyte hpage, decodeOn_eq_illegal_iff, rowAt_page0_eq_none_iff op hpage]
  · rw [decode_of_prebyte rfl, decodeOn_eq_illegal_iff, rowAt_page1A_eq_none_iff]
  · rw [decode_of_prebyte rfl, decodeOn_eq_illegal_iff, rowAt_pageCD_eq_none_iff]
  · rw [decode_of_prebyte rfl, decodeOn_eq_illegal_iff, rowAt_page18_eq_none_iff]

/-! ### Exactly the bytes of one opcode and its operands -/

/-- The bytes are an opcode, prebyte included, and as many operand bytes as the pair takes (R92). -/
inductive OneInstruction : List Byte → Prop
  | page0 {op : Byte} {operands : List Byte} (hpage : prebytePage op = none)
      (hcount : operandCount .page0 op = operands.length) : OneInstruction (op :: operands)
  | prebyte {b op : Byte} {p : Page} {operands : List Byte} (hpage : prebytePage b = some p)
      (hcount : operandCount p op = operands.length) : OneInstruction (b :: op :: operands)

/-- What the decoder answers on a pair says how many operand bytes the pair takes. -/
theorem operandCount_of_decodeOn {p : Page} {lead : Nat} {op : Byte} {bs : List Byte} {i : Instr} {n : Nat}
    (h : decodeOn p lead op bs = .ok (i, n)) : lead + operandCount p op = n := by
  unfold decodeOn at h
  unfold operandCount
  split at h
  · cases h
  · split at h
    · cases h
    · exact (Prod.mk.inj (Except.ok.inj h)).2

theorem operandCount_of_illegal {p q : Page} {lead : Nat} {op o : Byte} {bs : List Byte}
    (h : decodeOn p lead op bs = .error (.illegalOpcode q o)) : p = q ∧ operandCount p op = 0 := by
  unfold decodeOn at h
  unfold operandCount
  split at h
  · exact ⟨(DecodeError.illegalOpcode.inj (Except.error.inj h)).1, rfl⟩
  · split at h <;> cases h

theorem oneInstruction_of_decode {bytes : List Byte} {i : Instr} (h : decode bytes = .ok (i, bytes.length)) :
    OneInstruction bytes := by
  unfold decode at h
  split at h
  · cases h
  · next b rest =>
    split at h
    · next hpage => exact .page0 hpage (by have := operandCount_of_decodeOn h; grind)
    · next p hpage =>
      split at h
      · cases h
      · exact .prebyte hpage (by have := operandCount_of_decodeOn h; grind)

/-- An illegal pair takes no operand bytes (R107). -/
theorem oneInstruction_of_illegal {bytes : List Byte} {p : Page} {op : Byte}
    (h : decode bytes = .error (.illegalOpcode p op)) (hlength : bytes.length = if p = .page0 then 1 else 2) :
    OneInstruction bytes := by
  unfold decode at h
  split at h
  · cases h
  · next b rest =>
    split at h
    · next hpage =>
      obtain ⟨rfl, hcount⟩ := operandCount_of_illegal h
      exact .page0 hpage (by grind)
    · next q hpage =>
      split at h
      · cases h
      · obtain ⟨rfl, hcount⟩ := operandCount_of_illegal h
        exact .prebyte hpage (by grind)

/-! ### Fetching them -/

namespace Claims

theorem codeAt_cons_iff {b : Byte} {bs : List Byte} {s : State} : CodeAt (b :: bs) s ↔
    IsMem s s.pc ∧ s.stored s.pc = b ∧ CodeAt bs (s.setPc (s.pc + 1)) := by
  have shifted : ∀ k, s.pc + 1 + BitVec.ofNat 16 k = s.pc + BitVec.ofNat 16 (k + 1) := fun k => by
    rw [BitVec.add_assoc, BitVec.ofNat_add, BitVec.add_comm 1]
    rfl
  have first : s.pc + BitVec.ofNat 16 0 = s.pc := BitVec.add_zero _
  refine ⟨fun h => ?_, fun ⟨hmem, hstored, h⟩ k hk => ?_⟩
  · obtain ⟨hmem, hstored⟩ := h 0 (Nat.zero_lt_succ _)
    rw [first] at hmem hstored
    refine ⟨hmem, hstored, fun k hk => ?_⟩
    rw [State.setPc_pc, shifted]
    exact h (k + 1) (Nat.succ_lt_succ hk)
  · cases k with
    | zero => rw [first]; exact ⟨hmem, hstored⟩
    | succ k =>
      rw [← shifted]
      exact h k (Nat.lt_of_succ_lt_succ hk)

theorem fetch8_of_codeAt {b : Byte} {bs : List Byte} {s : State} (h : CodeAt (b :: bs) s) :
    fetch8 s = (b, s.setPc (s.pc + 1)) ∧ CodeAt bs (s.setPc (s.pc + 1)) := by
  obtain ⟨hmem, hstored, hrest⟩ := codeAt_cons_iff.1 h
  exact ⟨by rw [fetch8_stored hmem, hstored], hrest⟩

theorem fetchN_of_codeAt {bytes : List Byte} {s : State} (h : CodeAt bytes s) :
    fetchN bytes.length s = (bytes, s.setPc (s.pc + BitVec.ofNat 16 bytes.length)) := by
  induction bytes generalizing s with
  | nil => exact congrArg (fun v => ([], s.setPc v)) (BitVec.add_zero s.pc).symm
  | cons b bs ih =>
    obtain ⟨hfetch, hrest⟩ := fetch8_of_codeAt h
    have moved : s.pc + 1 + BitVec.ofNat 16 bs.length = s.pc + BitVec.ofNat 16 (b :: bs).length := by
      rw [BitVec.add_assoc, List.length_cons, BitVec.ofNat_add, BitVec.add_comm 1]
      rfl
    rw [List.length_cons, fetchN, hfetch, ih hrest, State.setPc_pc, moved]
    rfl

/-- The bytes of one instruction in memory at PC are fetched, and only PC moves. -/
theorem fetchInstr_of_codeAt {bytes : List Byte} {s : State} (hone : OneInstruction bytes) (h : CodeAt bytes s) :
    fetchInstr s = (bytes, s.setPc (s.pc + BitVec.ofNat 16 bytes.length)) := by
  rw [← fetchN_of_codeAt h]
  cases hone with
  | page0 hpage hcount =>
    obtain ⟨hfetch, -⟩ := fetch8_of_codeAt h
    simp only [fetchInstr, fetchN, hfetch, hpage, hcount, List.length_cons]
  | prebyte hpage hcount =>
    obtain ⟨hfetch, hrest⟩ := fetch8_of_codeAt h
    obtain ⟨hfetch', -⟩ := fetch8_of_codeAt hrest
    simp only [fetchInstr, fetchN, hfetch, hfetch', hpage, hcount, List.length_cons]

/-- A machine about to run an instruction that stands in memory fetches its bytes, the inhibit cleared, and decodes
them. -/
theorem step_of_codeAt {bytes : List Byte} {s : State} (hready : AboutToRun s) (hone : OneInstruction bytes)
    (hcode : CodeAt bytes s) : fetchInstr (s.setIrqInhibit false) =
      (bytes, (s.setIrqInhibit false).setPc (s.pc + BitVec.ofNat 16 bytes.length)) ∧
    step s = runInstr (s.setIrqInhibit false) := by
  obtain ⟨hsilent, htop, hrun, hsel⟩ := hready
  obtain ⟨-, -, -, -, -, hinstr⟩ := stepOrder s s hsilent
  exact ⟨fetchInstr_of_codeAt (s := s.setIrqInhibit false) hone hcode, hinstr htop hrun hsel⟩

/-- Settles O5. -/
theorem stepRunsStoredInstruction : Obligations.StepRunsStoredInstruction := by
  unfold Obligations.StepRunsStoredInstruction
  intro s i hwf hready hcode
  have hdec : decode (encode i) = .ok (i.core, (encode i).length) := by
    simpa using decodeOfEncode i [] hwf
  obtain ⟨hfetch, hstep⟩ := step_of_codeAt hready (oneInstruction_of_decode hdec) hcode
  rw [hstep]
  simp only [runInstr, hfetch, hdec]
  rfl

/-- Settles O6. -/
theorem illegalBytesTrap : Obligations.IllegalBytesTrap := by
  unfold Obligations.IllegalBytesTrap
  intro s bytes p op hready hcode hentry hdec hlength
  obtain ⟨hfetch, hstep⟩ := step_of_codeAt hready (oneInstruction_of_illegal hdec hlength) hcode
  refine ⟨_, ?_, entersHandler_trapEntry
    (s := (s.setIrqInhibit false).setPc (s.pc + BitVec.ofNat 16 bytes.length)) hentry _⟩
  rw [hstep]
  simp only [runInstr, hfetch, hdec, illegalOpcode_eq]
  rfl

end Claims
end Sys2Proof
end

section
/-! CERTIFICATE. Memory seen from the program (20_memory.md sections 5 and 7, 30_encoding.md section 3), accesses to the
register block (60_exceptions.md section 8), and the host's load; O52, O54, O55 and O60. -/

namespace Sys2Proof.Machine

/-! ### What the timer does not look at -/

theorem busTurn_cfg (s : State) : (busTurn s).cfg = s.cfg := by rw [busTurn_frame]

theorem applyTimer_setEvents (e : TimerEvent) (s : State) (l : List IoEvent) :
    applyTimer e (s.setEvents l) = (applyTimer e s).setEvents l := by
  by_cases h : s.run = .stopped
  · rw [applyTimer_stopped h, applyTimer_stopped (s := s.setEvents l) h]
  · rw [applyTimer_clocked h, applyTimer_clocked (s := s.setEvents l) h]
    cases e with
    | count n => rfl
    | capture n k c =>
      exact (apply_ite (fun u : State => u.setEvents l) (detects (captureSelect s.cfg.tctl2Layout s.io.tctl2 n) k = true)
        (raiseFlags (bitMask (captureBit n)) (s.setIo (latch s.io c n))) s).symm

theorem applyTimers_setEvents (es : List TimerEvent) (s : State) (l : List IoEvent) :
    applyTimers es (s.setEvents l) = (applyTimers es s).setEvents l := by
  induction es generalizing s with
  | nil => rfl
  | cons e t ih => simp only [applyTimers, applyTimer_setEvents, ih]

/-- The timer does not look at the events. -/
theorem busTurn_logEvent (e : IoEvent) (s : State) : (busTurn (logEvent e s)).io = (busTurn s).io := by
  cases h : s.busScript with
  | nil => rw [busTurn_nil h, busTurn_nil (s := logEvent e s) h]; rfl
  | cons es rest =>
    have turn : busTurn s = applyTimers es (s.setBusScript rest) := by rw [busTurn, h]
    have turn' : busTurn (logEvent e s) = applyTimers es ((s.setBusScript rest).setEvents (e :: s.events)) := by
      rw [busTurn, show (logEvent e s).busScript = es :: rest from h]; rfl
    rw [turn, turn', applyTimers_setEvents]
    rfl

/-! ### TFLG1 -/

/-- A read of TFLG1 gives the flags as the timer leaves them just before (R474). -/
theorem memRead_tflg1 {a : Word} {s : State} (hkind : kindAt s.cfg a = .io) (hname : ioNameOf s.cfg a = .tflg1) :
    memRead a s = ((busTurn s).io.tflg1, logEvent (.read a (busTurn s).io.tflg1) (busTurn s)) := by
  rw [memRead_device hkind, hname]
  rfl

/-- A store to TFLG1 clears the flags written as 1 (R474). -/
theorem memWrite_tflg1 {a : Word} {s : State} (v : Byte) (hkind : kindAt s.cfg a = .io)
    (hname : ioNameOf s.cfg a = .tflg1) : (memWrite a v s).io.tflg1 = (busTurn s).io.tflg1 &&& ~~~v := by
  rw [memWrite_device v hkind, hname]
  rfl

/-- BSET and BCLR on TFLG1: the byte computed from the flags read clears flags of those the timer leaves just before the
write. -/
theorem modifyBits_tflg1 {e : Ea} {s : State} (f : Byte → Byte) (hkind : kindAt s.cfg (eaAddr e s) = .io)
    (hname : ioNameOf s.cfg (eaAddr e s) = .tflg1) :
    (modifyBits e f s).io.tflg1 = (busTurn (busTurn s)).io.tflg1 &&& ~~~f (busTurn s).io.tflg1 := by
  have hcfg := memRead_cfg (eaAddr e s) s
  calc (modifyBits e f s).io.tflg1
    _ = (memWrite (eaAddr e s) (f (memRead (eaAddr e s) s).1) (memRead (eaAddr e s) s).2).io.tflg1 := rfl
    _ = (busTurn (memRead (eaAddr e s) s).2).io.tflg1 &&& ~~~f (memRead (eaAddr e s) s).1 :=
      memWrite_tflg1 _ (hcfg.symm ▸ hkind) (hcfg.symm ▸ hname)
    _ = _ := by rw [memRead_tflg1 hkind hname, busTurn_logEvent]

end Sys2Proof.Machine

namespace Sys2Proof.Claims

open Sys2Proof.Machine

/-- Settles O55. -/
theorem flagRegisterClears : Obligations.FlagRegisterClears := by
  unfold Obligations.FlagRegisterClears
  intro s e mm hkind hname
  have quiet : s.busScript = [] → busTurn (busTurn s) = s ∧ busTurn s = s := fun h => by
    rw [busTurn_nil h, busTurn_nil h]
    exact ⟨rfl, rfl⟩
  refine ⟨⟨_, rfl, fun i hi => ?staa⟩, ⟨_, rfl, fun i hi => ?bset, fun h => ?bsetQuiet⟩,
    ⟨_, rfl, fun i hi => ?bclr, fun h i hi => ?bclrQuiet⟩⟩
  case staa =>
    have stored : (storeAcc .a e s).io.tflg1 = (busTurn s).io.tflg1 &&& ~~~s.a := memWrite_tflg1 s.a hkind hname
    rw [stored]
    simp [hi]
  case bset =>
    rw [modifyBits_tflg1 _ hkind hname]
    simp [hi]
  case bclr =>
    rw [modifyBits_tflg1 _ hkind hname]
    simp [hi]
  case bsetQuiet =>
    obtain ⟨hsecond, hfirst⟩ := quiet h
    rw [modifyBits_tflg1 _ hkind hname, hsecond, hfirst]
    ext i hi
    cases hflag : s.io.tflg1[i] <;> simp [hflag]
  case bclrQuiet =>
    obtain ⟨hsecond, hfirst⟩ := quiet h
    rw [modifyBits_tflg1 _ hkind hname, hsecond, hfirst]
    rw [BitVec.getLsbD_and, BitVec.getLsbD_not, BitVec.getLsbD_and, BitVec.getLsbD_not, decide_eq_true hi]
    cases s.io.tflg1.getLsbD i <;> simp

/-! ### The kinds of address -/

theorem ioGet_io (n : IoName) (s : State) : (ioGet n s).2.io = s.io := by rw [ioGet_frame]

theorem ioGet_eq_of_readsBack {n : IoName} {s : State} {b : Byte} (h : readsBack s.io n = some b) : (ioGet n s).1 = b := by
  cases n
  case oc1m | oc1d | tctl1 | tctl2 | tmsk1 | tflg1 => exact Option.some.inj h
  all_goals cases h

/-- Bits 2 to 0 of CFORC read 0 (R472). -/
theorem ioGet_cforc_getLsbD (s : State) {i : Nat} (hi : i < 3) : (ioGet .cforc s).1.getLsbD i = false := by
  have zero : ∀ j < 3, (0xF8 : Byte).getLsbD j = false := by decide
  show ((drawByte s).1 &&& 0xF8).getLsbD i = false
  rw [BitVec.getLsbD_and, zero i hi, Bool.and_false]

/-- What a read of the register block does: one event, the timer's turn, and a value that R72 and R472 bound. -/
theorem memRead_of_io {a : Word} {s : State} (h : kindAt s.cfg a = .io) :
    (memRead a s).1 = (ioGet (ioNameOf s.cfg a) (busTurn s)).1 ∧
    (memRead a s).2.events = .read a (memRead a s).1 :: s.events ∧ (memRead a s).2.io = (busTurn s).io := by
  rw [memRead_device h]
  refine ⟨rfl, ?_, ioGet_io _ _⟩
  have logged : (ioGet (ioNameOf s.cfg a) (busTurn s)).2.events = s.events := by rw [ioGet_frame, busTurn_frame]
  exact congrArg _ logged

theorem memWrite_only_mem {a : Word} {s : State} (v : Byte) (h : kindAt s.cfg a = .ram) :
    memWrite a v s = { s with mem := (memWrite a v s).mem } := by
  rw [memWrite_ram v h]
  rfl

/-- Settles O52. -/
theorem memoryKinds : Obligations.MemoryKinds := by
  unfold Obligations.MemoryKinds
  intro s a v hinv
  refine ⟨fun hram => ⟨?same, fun b hb hmem => ?other, memWrite_only_mem v hram, inv_memWrite hinv a v⟩,
    fun hrom => memWrite_rom v hrom, fun hgap => ⟨memWrite_unmapped v hgap, by rw [memRead_unmapped hgap]; rfl⟩,
    fun hmem => memRead_eq_stored hmem, fun hio => ?io, fun h => busTurn_nil h⟩
  case same =>
    have here : kindAt (memWrite a v s).cfg a = .ram := by rw [memWrite_cfg]; exact hram
    rw [memRead_ram here, memWrite_stored_same v hram hinv.1]
  case other =>
    have there : IsMem (memWrite a v s) b := by unfold IsMem; rw [memWrite_cfg]; exact hmem
    rw [memRead_eq_stored there, memWrite_stored_ne v s hb]
  case io =>
    obtain ⟨hvalue, hevents, hblock⟩ := memRead_of_io hio
    refine ⟨hevents, hblock, .of_mem_eq (memRead_mem a s), keeps_memRead s a, fun b hb => ?_, fun hcforc i hi => ?_⟩
    · rw [hvalue, ioGet_eq_of_readsBack hb]
    · rw [hvalue, hcforc, ioGet_cforc_getLsbD _ hi]

/-- Settles O54. -/
theorem operandForms : Obligations.OperandForms := by
  unfold Obligations.OperandForms
  intro s v u e
  exact ⟨rfl, rfl, zext16_toNat v, rfl, add_zext16_toNat s.x v, add_zext16_toNat s.y v,
    fun hmem => memRead_eq_stored hmem, fun hhigh hlow => memRead16_eq_stored hhigh hlow⟩

/-! ### The host's load -/

theorem storeBytes_stored_outside {bytes : List Byte} {a b : Word} {s : State}
    (h : ∀ k, k < bytes.length → b ≠ a + BitVec.ofNat 16 k) : (storeBytes bytes a s).stored b = s.stored b := by
  induction bytes generalizing a s with
  | nil => rfl
  | cons v bytes ih =>
    have first : b ≠ a := fun e => h 0 (Nat.zero_lt_succ _) (e.trans (BitVec.add_zero a).symm)
    rw [storeBytes, ih fun k hk e => h (k + 1) (Nat.succ_lt_succ hk) (by rw [e]; bv_omega), State.stored_store_ne s v first]

/-- Bytes stored one after the other, fewer than the address space holds, stand at their addresses. -/
theorem storeBytes_stored {bytes : List Byte} {a : Word} {s : State} (hwf : s.mem.wf) (hlength : bytes.length ≤ 65536)
    {k : Nat} (hk : k < bytes.length) : (storeBytes bytes a s).stored (a + BitVec.ofNat 16 k) = bytes[k] := by
  induction bytes generalizing a s k with
  | nil => cases hk
  | cons v bytes ih =>
    have hlength' : bytes.length < 65536 := hlength
    cases k with
    | zero =>
      have later : ∀ j, j < bytes.length → a + BitVec.ofNat 16 0 ≠ a + 1 + BitVec.ofNat 16 j := fun j hj => by bv_omega
      rw [storeBytes, storeBytes_stored_outside later, BitVec.add_zero, State.stored_store hwf, if_pos rfl]
      rfl
    | succ k =>
      have moved : a + BitVec.ofNat 16 (k + 1) = a + 1 + BitVec.ofNat 16 k := by bv_omega
      rw [storeBytes, moved, ih (State.wf_store hwf a v) (Nat.le_of_lt hlength') (Nat.lt_of_succ_lt_succ hk)]
      rfl

/-- The sixteen bytes of the example record. -/
def exampleBytes : List Byte := (List.range 16).map fun i => BitVec.ofNat 8 (0x70 + i)

theorem parseLine_exampleRecord : parseLine exampleRecord = .ok (.data 0x170 exampleBytes) := by rfl

theorem splitLines_exampleRecord : splitLines exampleRecord = [exampleRecord] := by decide

theorem loadS19_exampleRecord (s : State) : loadS19 exampleRecord s = .ok (storeBytes exampleBytes 0x170 s) := by
  rw [loadS19, splitLines_exampleRecord]
  simp only [loadLines, parseLine_exampleRecord]

/-- Settles O60. -/
theorem loadsExampleRecord : Obligations.LoadsExampleRecord := by
  unfold Obligations.LoadsExampleRecord
  intro s hwf
  have hlength : exampleBytes.length = 16 := by simp [exampleBytes]
  refine ⟨_, loadS19_exampleRecord s, fun i hi => ?_, fun a ha => ?_⟩
  · have here : BitVec.ofNat 16 (0x170 + i) = (0x170 : Word) + BitVec.ofNat 16 i := BitVec.ofNat_add 0x170 i
    rw [here, storeBytes_stored hwf (by omega) (by omega)]
    simp [exampleBytes]
  · exact storeBytes_stored_outside fun k hk e => by
      rw [hlength] at hk
      subst e
      bv_omega

end Sys2Proof.Claims
end

section
/-! SUPPORT. The timer bit by bit (60_exceptions.md R468 to R473): what each pin and each flag is after compares act, a
capture, and a store to PORTA. -/

namespace Sys2Proof.Machine

open Sys2Proof.Claims

/-! ### Two-bit fields -/

/-- The number that a two-bit field is, its high bit first. -/
def pairNumber (pair : Bool × Bool) : Nat := 2 * pair.1.toNat + pair.2.toNat

theorem field76_eq : ∀ b : Byte, b.toNat / 64 = pairNumber (b.getLsbD 7, b.getLsbD 6) := by decide
theorem field54_eq : ∀ b : Byte, b.toNat / 16 % 4 = pairNumber (b.getLsbD 5, b.getLsbD 4) := by decide
theorem field32_eq : ∀ b : Byte, b.toNat / 4 % 4 = pairNumber (b.getLsbD 3, b.getLsbD 2) := by decide
theorem field10_eq : ∀ b : Byte, b.toNat % 4 = pairNumber (b.getLsbD 1, b.getLsbD 0) := by decide

theorem compareAction_eq (tctl1 : Byte) (n : Compare) : compareAction tctl1 n = pairNumber (actionPair tctl1 n) := by
  cases n with
  | oc1 => rfl
  | oc2 => exact field76_eq tctl1
  | oc3 => exact field54_eq tctl1
  | oc4 => exact field32_eq tctl1
  | oc5 => exact field10_eq tctl1

theorem detects_pairNumber (b a : Bool) (e : Edge) :
    detects (pairNumber (b, a)) e = if e = .falling then b else a := by
  cases e <;> cases b <;> cases a <;> rfl

/-- The model's selection of an edge is that of the layout's two bits (R471). -/
theorem detects_captureSelect (layout : Config.Tctl2Layout) (tctl2 : Byte) (n : Capture) (e : Edge) :
    detects (captureSelect layout tctl2 n) e = selectsEdge layout tctl2 n e := by
  have field : ∀ {i j : Nat}, edgeBits layout n = some (i, j) →
      captureSelect layout tctl2 n = pairNumber (tctl2.getLsbD i, tctl2.getLsbD j) →
      detects (captureSelect layout tctl2 n) e = selectsEdge layout tctl2 n e := fun hbits hselect => by
    simp only [hselect, detects_pairNumber, selectsEdge, hbits]
    cases e <;> rfl
  cases layout with
  | asSource =>
    cases n with
    | ic1 => exact field rfl (field76_eq tctl2)
    | ic2 => exact field rfl (field54_eq tctl2)
    | ic3 => exact field rfl (field32_eq tctl2)
    | ic4 => cases e <;> rfl
  | shifted =>
    cases n with
    | ic1 => exact field rfl (field54_eq tctl2)
    | ic2 => exact field rfl (field32_eq tctl2)
    | ic3 => exact field rfl (field10_eq tctl2)
    | ic4 => exact field rfl (field76_eq tctl2)

/-! ### Bits and masks -/

theorem compareBit_lt (n : Compare) : compareBit n < 8 := by cases n <;> decide

theorem three_le_compareBit (n : Compare) : 3 ≤ compareBit n := by cases n <;> decide

theorem bitMask_getLsbD {k i : Nat} (hi : i < 8) : (bitMask k).getLsbD i = decide (i = k) := by
  rw [bitMask, BitVec.getLsbD_ofNat, Nat.testBit_two_pow, decide_eq_true hi, Bool.true_and]
  exact decide_eq_decide.2 eq_comm

theorem zero_getLsbD (i : Nat) : (0 : Byte).getLsbD i = false := BitVec.getLsbD_zero

/-- A byte masked into another, bit by bit. -/
theorem select_getLsbD (p q m : Byte) {i : Nat} (hi : i < 8) :
    ((p &&& ~~~m) ||| (q &&& m)).getLsbD i = if m.getLsbD i then q.getLsbD i else p.getLsbD i := by
  rw [BitVec.getLsbD_or, BitVec.getLsbD_and, BitVec.getLsbD_and, BitVec.getLsbD_not, decide_eq_true hi]
  cases m.getLsbD i <;> simp

theorem actionMask_getLsbD (tctl1 : Byte) (n : Compare) {i : Nat} (hi : i < 8) :
    (actionMask tctl1 n).getLsbD i = (decide (i = compareBit n) && decide (actionPair tctl1 n ≠ (false, false))) := by
  rw [actionMask, compareAction_eq]
  rcases actionPair tctl1 n with ⟨_ | _, _ | _⟩ <;> simp [pairNumber, bitMask_getLsbD hi]

/-- The timer drives a pin exactly while its pair is not 00 (R476). -/
theorem timerPins_getLsbD (tctl1 : Byte) (n : Compare) :
    (timerPins tctl1).getLsbD (compareBit n) = decide (actionPair tctl1 n ≠ (false, false)) := by
  simp only [timerPins, BitVec.getLsbD_or, actionMask_getLsbD _ _ (compareBit_lt n)]
  cases n <;> simp [compareBit, actionPair]

theorem oc1Pins_getLsbD (io : IoRegs) (n : Compare) :
    (oc1Pins io).getLsbD (compareBit n) = io.oc1m.getLsbD (compareBit n) := by
  rw [oc1Pins, BitVec.getLsbD_and]
  cases n <;> exact Bool.and_true _

theorem oc1Pins_getLsbD_low (io : IoRegs) {i : Nat} (hi : i < 3) : (oc1Pins io).getLsbD i = false := by
  have zero : ∀ j < 3, (0xF8 : Byte).getLsbD j = false := by decide
  rw [oc1Pins, BitVec.getLsbD_and, zero i hi, Bool.and_false]

/-! ### The pin actions -/

theorem actPin_getLsbD (io : IoRegs) (n : Compare) {i : Nat} (hi : i < 8) : (actPin io n).pins.getLsbD i =
    if i = compareBit n then actedLevel (actionPair io.tctl1 n) (io.pins.getLsbD i) else io.pins.getLsbD i := by
  rw [actPin, compareAction_eq]
  have hmask : (bitMask (compareBit n)).getLsbD i = decide (i = compareBit n) := bitMask_getLsbD hi
  have hnot : (~~~bitMask (compareBit n)).getLsbD i = !decide (i = compareBit n) := by
    rw [BitVec.getLsbD_not, hmask, decide_eq_true hi, Bool.true_and]
  rcases actionPair io.tctl1 n with ⟨_ | _, _ | _⟩
  case false.false =>
    show io.pins.getLsbD i = _
    simp [actedLevel]
  case false.true =>
    show (io.pins ^^^ bitMask (compareBit n)).getLsbD i = _
    rw [BitVec.getLsbD_xor, hmask]
    by_cases h : i = compareBit n <;> simp [h, actedLevel]
  case true.false =>
    show (io.pins &&& ~~~bitMask (compareBit n)).getLsbD i = _
    rw [BitVec.getLsbD_and, hnot]
    by_cases h : i = compareBit n <;> simp [h, actedLevel]
  case true.true =>
    show (io.pins ||| bitMask (compareBit n)).getLsbD i = _
    rw [BitVec.getLsbD_or, hmask]
    by_cases h : i = compareBit n <;> simp [h, actedLevel]

theorem actOne_getLsbD {which : Byte} {n : Compare} (hn : n ≠ .oc1) (io : IoRegs) {i : Nat} (hi : i < 8) :
    (actOne which n io).pins.getLsbD i =
      if i = compareBit n ∧ which.getLsbD i = true then actedLevel (actionPair io.tctl1 n) (io.pins.getLsbD i)
      else io.pins.getLsbD i := by
  have hact : actCompare io n = actPin io n := by
    cases n with
    | oc1 => exact absurd rfl hn
    | _ => rfl
  rw [actOne, hact]
  split
  · next h =>
    rw [actPin_getLsbD io n hi]
    grind
  · next h => grind

theorem actPairs_getLsbD (which : Byte) (io : IoRegs) (n : Compare) : (actPairs which io).pins.getLsbD (compareBit n) =
    if which.getLsbD (compareBit n) then actedLevel (actionPair io.tctl1 n) (io.pins.getLsbD (compareBit n))
    else io.pins.getLsbD (compareBit n) := by
  have tctl1 : ∀ k io', (actOne which k io').tctl1 = io'.tctl1 := fun k io' => by rw [actOne_frame]
  have hn := compareBit_lt n
  simp only [actPairs, actOne_getLsbD (n := .oc5) nofun _ hn, actOne_getLsbD (n := .oc4) nofun _ hn,
    actOne_getLsbD (n := .oc3) nofun _ hn, actOne_getLsbD (n := .oc2) nofun _ hn, tctl1]
  cases n <;> simp [compareBit, actionPair, actedLevel]

theorem actPairs_getLsbD_low (which : Byte) (io : IoRegs) {i : Nat} (hi : i < 3) :
    (actPairs which io).pins.getLsbD i = io.pins.getLsbD i := by
  have h8 : i < 8 := by omega
  have other : ∀ n, i ≠ compareBit n := fun n => by have := three_le_compareBit n; omega
  simp only [actPairs, actOne_getLsbD (n := .oc5) nofun _ h8, actOne_getLsbD (n := .oc4) nofun _ h8,
    actOne_getLsbD (n := .oc3) nofun _ h8, actOne_getLsbD (n := .oc2) nofun _ h8, other, false_and, if_false]

theorem clashPins_getLsbD (which : Byte) (io : IoRegs) (n : Compare) : (clashPins which io).getLsbD (compareBit n) =
    (which.getLsbD 7 && (io.oc1m.getLsbD (compareBit n) && which.getLsbD (compareBit n) &&
      decide (actionPair io.tctl1 n ≠ (false, false)) &&
      ((actPairs which io).pins.getLsbD (compareBit n) ^^ io.oc1d.getLsbD (compareBit n)))) := by
  unfold clashPins
  cases which.getLsbD 7 with
  | false => exact zero_getLsbD _
  | true =>
    simp only [if_true, BitVec.getLsbD_and, BitVec.getLsbD_xor, oc1Pins_getLsbD, timerPins_getLsbD, Bool.true_and]

theorem clashPins_getLsbD_low (which : Byte) (io : IoRegs) {i : Nat} (hi : i < 3) :
    (clashPins which io).getLsbD i = false := by
  unfold clashPins
  split
  · simp only [BitVec.getLsbD_and, oc1Pins_getLsbD_low io hi, Bool.false_and]
  · exact zero_getLsbD i

/-- OC1's action: the pins it controls take OC1D (R473). -/
theorem actOne_oc1_getLsbD (which : Byte) (io : IoRegs) {i : Nat} (hi : i < 8) :
    (actOne which .oc1 io).pins.getLsbD i =
      if which.getLsbD 7 && (oc1Pins io).getLsbD i then io.oc1d.getLsbD i else io.pins.getLsbD i := by
  show (if which.getLsbD 7 then actOc1 io else io).pins.getLsbD i = _
  cases which.getLsbD 7 with
  | false => rfl
  | true => exact select_getLsbD io.pins io.oc1d (oc1Pins io) hi

/-- A pin after the compares act: free where two disagree, OC1D where OC1 acts, otherwise what the pairs give. -/
theorem actAll_getLsbD (which : Byte) (s : State) {i : Nat} (hi : i < 8) : (actAll which s).io.pins.getLsbD i =
    if (clashPins which s.io).getLsbD i then (drawByte s).1.getLsbD i
    else if which.getLsbD 7 && (oc1Pins s.io).getLsbD i then s.io.oc1d.getLsbD i
    else (actPairs which s.io).pins.getLsbD i := by
  have oc1m : oc1Pins (actPairs which s.io) = oc1Pins s.io := by rw [actPairs_frame]; rfl
  have oc1d : (actPairs which s.io).oc1d = s.io.oc1d := by rw [actPairs_frame]
  refine (select_getLsbD _ _ _ hi).trans ?_
  rw [actOne_oc1_getLsbD _ _ hi, oc1m, oc1d]

/-- The compares whose bits are set act on the pins as the rules say. -/
theorem pinsAct_actAll (which : Byte) (s : State) : PinsAct which s.io (actAll which s).io.pins := by
  refine ⟨fun n hn => ?pair, fun n hwhich hm hagree => ?oc1, fun i hi => ?low⟩
  case pair =>
    have noClash : (clashPins which s.io).getLsbD (compareBit n) = false := by
      rw [clashPins_getLsbD]
      grind
    rw [actAll_getLsbD _ _ (compareBit_lt n), noClash, oc1Pins_getLsbD, actPairs_getLsbD]
    grind
  case oc1 =>
    have noClash : (clashPins which s.io).getLsbD (compareBit n) = false := by
      rw [clashPins_getLsbD, actPairs_getLsbD]
      grind
    rw [actAll_getLsbD _ _ (compareBit_lt n), noClash, oc1Pins_getLsbD, hwhich, hm]
    rfl
  case low =>
    rw [actAll_getLsbD _ _ (by omega), clashPins_getLsbD_low _ _ hi, oc1Pins_getLsbD_low _ hi, Bool.and_false,
      actPairs_getLsbD_low _ _ hi]
    rfl

/-- Only the bits of the five compares count. -/
theorem pinsAct_congr {which which' : Byte} {io : IoRegs} {pins : Byte} (h : PinsAct which io pins)
    (hbits : ∀ n, which'.getLsbD (compareBit n) = which.getLsbD (compareBit n)) : PinsAct which' io pins := by
  have hoc1 : which'.getLsbD 7 = which.getLsbD 7 := hbits .oc1
  unfold PinsAct at h ⊢
  simp only [hoc1, hbits]
  exact h

end Sys2Proof.Machine
end

section
/-! CERTIFICATE. The timer's events and the writes to its registers (60_exceptions.md sections 7 and 8); O56 and O57. -/

namespace Sys2Proof.Claims

open Sys2Proof.Machine

/-! ### Flags -/

theorem raiseFlags_getLsbD (which : Byte) (s : State) (i : Nat) :
    (raiseFlags which s).io.tflg1.getLsbD i = (s.io.tflg1.getLsbD i || which.getLsbD i) := BitVec.getLsbD_or

theorem actAll_tflg1 (which : Byte) (s : State) : (actAll which s).io.tflg1 = s.io.tflg1 := by rw [actAll_io_frame]

theorem matchBit_getLsbD (io : IoRegs) (count : Word) (n : Compare) {i : Nat} (hi : i < 8) :
    (matchBit io count n).getLsbD i = (decide (i = compareBit n) && decide (compareReg io n = count)) := by
  unfold matchBit
  split
  · next h => simp [bitMask_getLsbD hi, h]
  · next h => simp [h]

/-- Exactly the compares whose registers equal the count match (R468). -/
theorem matchMask_getLsbD (io : IoRegs) (count : Word) (n : Compare) :
    (matchMask io count).getLsbD (compareBit n) = decide (compareReg io n = count) := by
  simp only [matchMask, BitVec.getLsbD_or, matchBit_getLsbD _ _ _ (compareBit_lt n)]
  cases n <;> simp [compareBit]

theorem matchMask_getLsbD_low (io : IoRegs) (count : Word) {i : Nat} (hi : i < 3) :
    (matchMask io count).getLsbD i = false := by
  have other : ∀ n, decide (i = compareBit n) = false := fun n =>
    decide_eq_false (by have := three_le_compareBit n; omega)
  have h8 : i < 8 := by omega
  simp only [matchMask, BitVec.getLsbD_or, matchBit_getLsbD _ _ _ h8, other, Bool.false_and, Bool.or_false]

/-! ### The events -/

theorem applyEvent_count {s : State} (hrun : s.run ≠ .stopped) (count : Word) :
    applyEvent (.timer (.count count)) s = raiseFlags (matchMask s.io count) (actAll (matchMask s.io count) s) :=
  applyTimer_clocked hrun (.count count)

theorem applyEvent_capture {s : State} (hrun : s.run ≠ .stopped) (n : Capture) (e : Edge) (count : Word) :
    applyEvent (.timer (.capture n e count)) s =
      if selectsEdge s.cfg.tctl2Layout s.io.tctl2 n e then
        raiseFlags (bitMask (captureBit n)) (s.setIo (latch s.io count n))
      else s := by
  rw [← detects_captureSelect]
  exact applyTimer_clocked hrun (.capture n e count)

/-- A capture loads its own register and leaves the others (R468). -/
theorem captureReg_latch (io : IoRegs) (count : Word) (n m : Capture) :
    captureReg (latch io count n) m = if m = n then count else captureReg io m := by
  cases n <;> cases m <;> rfl

theorem latch_frame (io : IoRegs) (count : Word) (n : Capture) : latch io count n =
    { io with
      tic1 := (latch io count n).tic1, tic2 := (latch io count n).tic2, tic3 := (latch io count n).tic3,
      toc5 := (latch io count n).toc5 } := by
  cases n <;> rfl

theorem applyEvents_map_timer (es : List TimerEvent) (s : State) : applyEvents (es.map .timer) s = applyTimers es s := by
  induction es generalizing s with
  | nil => rfl
  | cons e es ih => exact ih _

/-- Settles O56. -/
theorem timerEvents : Obligations.TimerEvents := by
  unfold Obligations.TimerEvents
  refine ⟨fun s e hrun => applyTimer_stopped hrun e, fun s count hrun => ?count, fun s n e count hrun => ?capture,
    fun s h => busTurn_nil h, fun s es rest h => ?script⟩
  case count =>
    dsimp only
    rw [applyEvent_count hrun]
    refine ⟨fun n => ?_, fun i hi => ?_, fun which hwhich => ?_, ?_, rfl⟩
    · rw [raiseFlags_getLsbD, actAll_tflg1, matchMask_getLsbD]
    · rw [raiseFlags_getLsbD, actAll_tflg1, matchMask_getLsbD_low _ _ hi, Bool.or_false]
    · exact pinsAct_congr (pinsAct_actAll (matchMask s.io count) s) fun n => by rw [hwhich, matchMask_getLsbD]
    · have frame := actAll_io_frame (matchMask s.io count) s
      simp only [raiseFlags, State.setIo_io]
      rw [frame]
  case capture =>
    dsimp only
    rw [applyEvent_capture hrun]
    refine ⟨fun hoff => by rw [hoff]; rfl, fun hon => ?_⟩
    rw [hon, if_pos rfl]
    refine ⟨?_, fun m hm => ?_, fun i hi => ?_, ?_, rfl⟩
    · exact (captureReg_latch s.io count n n).trans (if_pos rfl)
    · exact (captureReg_latch s.io count n m).trans (if_neg hm)
    · have kept : (s.setIo (latch s.io count n)).io.tflg1 = s.io.tflg1 := by
        rw [State.setIo_io, latch_frame]
      rw [raiseFlags_getLsbD, kept, bitMask_getLsbD hi]
    · simp only [raiseFlags, State.setIo_io]
      rw [latch_frame]
  case script =>
    rw [applyEvents_map_timer]
    unfold busTurn
    rw [h]
    rfl

/-! ### Writes to the register block -/

/-- A store to the register block leaves one event and does what its register does. -/
theorem memWrite_io {a : Word} {s : State} (v : Byte) (h : kindAt s.cfg a = .io) :
    (memWrite a v s).events = .write a v :: s.events ∧
    (memWrite a v s).io = (ioPut (ioNameOf s.cfg a) v (logEvent (.write a v) (busTurn s))).io := by
  rw [memWrite_device v h]
  refine ⟨?_, rfl⟩
  rw [ioPut_frame]
  exact congrArg _ (show (busTurn s).events = s.events by rw [busTurn_frame])

/-- A register that keeps what it is given holds the byte (R470, R471, R473, R474, R468). -/
theorem ioPut_io_of_storedInto {n : IoName} {v : Byte} {s : State} {after : IoRegs}
    (h : storedInto s.cfg.tctl2Layout n v s.io = some after) : (ioPut n v s).io = after := by
  cases n
  case porta | cforc | tflg1 => cases h
  case tctl2 =>
    refine Eq.trans ?_ (Option.some.inj h)
    show { s.io with tctl2 := v &&& tctl2Bits s.cfg.tctl2Layout } = _
    cases s.cfg.tctl2Layout <;> rfl
  all_goals exact Option.some.inj h

/-- A forced compare acts on its pin; flags are set among those forced only (R472, log entry 7). -/
theorem forceCompare_eq (v : Byte) (s : State) : ∃ flags : Byte,
    (forceCompare v s).io = (raiseFlags (v &&& 0xF8 &&& flags) (actAll v s)).io := ⟨_, rfl⟩

/-- A store to PORTA drives PA6 to PA3 where the pair is 00 (R476). -/
theorem drivePorta_getLsbD (io : IoRegs) (v : Byte) {i : Nat} (hi : i < 8) : (drivePorta io v).pins.getLsbD i =
    if (0x78 : Byte).getLsbD i && !(timerPins io.tctl1).getLsbD i then v.getLsbD i else io.pins.getLsbD i := by
  refine (select_getLsbD io.pins v (0x78 &&& ~~~timerPins io.tctl1) hi).trans ?_
  rw [BitVec.getLsbD_and, BitVec.getLsbD_not, decide_eq_true hi, Bool.true_and]

theorem portaPins_getLsbD : ∀ i < 8, (0x78 : Byte).getLsbD i = decide (3 ≤ i ∧ i < 7) := by decide

theorem forcedFlags_getLsbD_low : ∀ i < 3, (0xF8 : Byte).getLsbD i = false := by decide

/-- Settles O57. -/
theorem registerBlockWrites : Obligations.RegisterBlockWrites := by
  unfold Obligations.RegisterBlockWrites
  intro s a v hio
  obtain ⟨hevents, hput⟩ := memWrite_io v hio
  have hmem : (memWrite a v s).mem = s.mem := by rw [memWrite_mem, hio, if_neg nofun]
  dsimp only
  refine ⟨hevents, .of_mem_eq hmem, keeps_memWrite s a v, fun hname => ?cforc, fun hname => ?porta, fun hname => ?tflg1,
    fun after hafter => ?stored⟩
  case cforc =>
    obtain ⟨flags, hforce⟩ := forceCompare_eq v (logEvent (.write a v) (busTurn s))
    have hblock : (memWrite a v s).io = _ := hput.trans ((congrArg (fun n => (ioPut n v _).io) hname).trans hforce)
    have hflags : ∀ i, (memWrite a v s).io.tflg1.getLsbD i =
        ((busTurn s).io.tflg1.getLsbD i || (v &&& 0xF8 &&& flags).getLsbD i) := fun i => by
      rw [hblock, raiseFlags_getLsbD, actAll_tflg1]
      rfl
    refine ⟨?_, fun i hi hset => ?_, fun i hi hother => ?_, ?_⟩
    · rw [hblock]
      exact pinsAct_actAll v (logEvent (.write a v) (busTurn s))
    · rw [hflags, hset, Bool.true_or]
    · have none : (v &&& 0xF8 &&& flags).getLsbD i = false := by
        rw [BitVec.getLsbD_and, BitVec.getLsbD_and]
        rcases hother with hlow | hclear
        · rw [forcedFlags_getLsbD_low i hlow, Bool.and_false, Bool.false_and]
        · rw [hclear, Bool.false_and, Bool.false_and]
      rw [hflags, none, Bool.or_false]
    · rw [hblock]
      simp only [raiseFlags, State.setIo_io]
      rw [actAll_io_frame]
      rfl
  case porta =>
    have hblock : (memWrite a v s).io = drivePorta (busTurn s).io v := by rw [hput, hname]; rfl
    rw [hblock]
    refine ⟨fun n hn => ?_, fun i hi => ?_, rfl⟩
    · have driven : decide (3 ≤ compareBit n ∧ compareBit n < 7) = true := by cases n <;> trivial
      rw [drivePorta_getLsbD _ _ (compareBit_lt n), portaPins_getLsbD _ (compareBit_lt n), driven, timerPins_getLsbD]
      by_cases hpair : actionPair (busTurn s).io.tctl1 n = (false, false) <;> simp [hpair]
    · have notDriven : decide (3 ≤ i ∧ i < 7) = false := decide_eq_false (by omega)
      rw [drivePorta_getLsbD _ _ (by omega), portaPins_getLsbD _ (by omega), notDriven]
      rfl
  case tflg1 =>
    have hblock : (memWrite a v s).io = { (busTurn s).io with tflg1 := (busTurn s).io.tflg1 &&& ~~~v } := by
      rw [hput, hname]
      rfl
    rw [hblock]
    refine ⟨fun i hi => ?_, rfl⟩
    rw [BitVec.getLsbD_and, BitVec.getLsbD_not, decide_eq_true hi, Bool.true_and]
  case stored =>
    have hcfg : (logEvent (.write a v) (busTurn s)).cfg = s.cfg := busTurn_cfg s
    rw [hput]
    exact ioPut_io_of_storedInto (by rw [hcfg]; exact hafter)

end Sys2Proof.Claims
end
